-- ==== Sys2Proof/Word.lean ====
section
/-! DEFINITION. The word types of the CS-1620: link bytes, 16-bit counts and drain words, 32-bit frame numbers, the pixel lines, and the level of a line. -/

namespace Sys2Proof

/-- One byte on the control link, or one byte of capture memory. -/
abbrev Byte := BitVec 8

/-- A 16-bit value: a sequence number, a label, a saturating count, a word on a drain port. -/
abbrev Half := BitVec 16

/-- A 32-bit value: the frame number (R24). -/
abbrev Word := BitVec 32

/-- The twelve pixel data lines PD[11:0] at one edge of PCLK (R22). -/
abbrev PixelLines := BitVec 12

/-- The level of a line as it is sampled. -/
inductive Level where
  | low
  | high
  deriving DecidableEq, Repr

end Sys2Proof
end

