-- ==== Sys2Proof/Config.lean ====
section
/-! DEFINITION. The fixed numbers of the part (00_scope, "Numbers used throughout", and R155). The spec leaves no value of an operation open, so there is no free value here. -/

namespace Sys2Proof.Config

/-- Blocks of capture memory (R66). -/
abbrev blocks : Nat := 512

/-- Bytes in one block (R66). -/
abbrev blockSize : Nat := 512

/-- Capture records (R41). -/
abbrev records : Nat := 48

/-- Requests the request queue holds (R132). -/
abbrev requestSlots : Nat := 4

/-- Replies the reply queue holds (R137). -/
abbrev replySlots : Nat := 4

/-- Replies sent in a row before a waiting notice is sent (R138). -/
abbrev repliesBeforeNotice : Nat := 4

/-- Longest READ (R91). -/
abbrev maxRead : Nat := 192

/-- Words of a drain header and of a drain trailer (R108). -/
abbrev headerWords : Nat := 8

/-- Words of a drain trailer (R108). -/
abbrev trailerWords : Nat := 2

/-- Largest stall timeout in milliseconds (R117). -/
abbrev maxTimeout : Nat := 250

/-- Silicon revision (00_scope, R153, R155). -/
abbrev revision : Nat := 0x03

/-- Vendor code (R155). -/
abbrev vendorCode : Nat := 0x4D52

/-- Part number (R155). -/
abbrev partNumber : Nat := 1620

/-- Largest depth of a region (R2). -/
abbrev maxDepth : Nat := 8

end Sys2Proof.Config
end

