-- ==== Sys2Proof/Syntax.lean ====
section
/-! DEFINITION. The commands of the CS-1620: one constructor for each row of spec/opcode_table.json. -/

namespace Sys2Proof

/-- One of the two drain ports (R103). -/
inductive DrainId where
  | a
  | b
  deriving DecidableEq, Repr

/-- The steps of the part, each whole and indivisible (95_what_each_step_holds).

The commands from `identify` to `replay` execute the request at the head of the request queue (R133). They carry no
operand, because the fields of the request are the payload of that head entry (R132, R161). -/
inductive Instr where
  /-- FRAME_START (R27): FV is seen rising. -/
  | frameStart
  /-- LINE_START (R28): LV is seen rising. -/
  | lineStart
  /-- PIXEL (R29): an edge at which LV is sampled high, with PD[11:0] at that edge. -/
  | pixel (pd : PixelLines)
  /-- LINE_END (R30): LV is seen falling, or a line is ended by the fall of FV (R23). -/
  | lineEnd
  /-- FRAME_END (R31): FV is seen falling. -/
  | frameEnd
  /-- IDENTIFY (R155). -/
  | identify
  /-- STATUS (R156). -/
  | status
  /-- RESET (R140). -/
  | reset
  /-- SET_INPUT (R35). -/
  | setInput
  /-- START_INPUT (R36). -/
  | startInput
  /-- STOP_INPUT with when = NOW (R37). -/
  | stopInputNow
  /-- STOP_INPUT with when = FRAME_END (R38). -/
  | stopInputFrameEnd
  /-- DEFINE_REGION (R9). -/
  | defineRegion
  /-- CLEAR_REGION (R11). -/
  | clearRegion
  /-- GET_REGION (R12). -/
  | getRegion
  /-- COMMIT (R13). -/
  | commit
  /-- CANCEL_COMMIT (R20). -/
  | cancelCommit
  /-- HALT_REGION (R21). -/
  | haltRegion
  /-- REGION_STATUS (R157). -/
  | regionStatus
  /-- FETCH (R88). -/
  | fetch
  /-- READ (R91). -/
  | read
  /-- RELEASE (R93). -/
  | release
  /-- FLUSH (R94). -/
  | flush
  /-- SET_DRAIN with action ENABLE (R117). -/
  | setDrainEnable
  /-- SET_DRAIN with action DISABLE (R118). -/
  | setDrainDisable
  /-- SET_DRAIN with action ABORT (R119). -/
  | setDrainAbort
  /-- DRAIN_STATUS (R124). -/
  | drainStatus
  /-- POOL_STATUS (R81). -/
  | poolStatus
  /-- SET_NOTICES (R151). -/
  | setNotices
  /-- UNKNOWN_REQUEST (R134): the head request's KIND is no request code. -/
  | unknownRequest
  /-- REPLAY (R136): the head request has the tag and kind of the stored record. -/
  | replay
  /-- REQUEST_FRAME (R130): the second CRC byte of a frame is taken and the frame is judged. -/
  | requestFrame (crcHigh : Byte)
  /-- FRAMING_ERROR (R128): a byte whose stop bit is sampled low. -/
  | framingError
  /-- LEN_REFUSED (R129): a LEN byte outside 2..250. -/
  | lenRefused (len : Byte)
  /-- GAP_TIMER_EXPIRY (R131). -/
  | gapTimerExpiry
  /-- LINK_BREAK (R143): RXD has been low for 1 ms. -/
  | linkBreak
  /-- FRAME_SENT (R139): the last CRC byte of the frame on TXD ends. -/
  | frameSent
  /-- PIN_RESET (R40): RSTn low, or power-up. -/
  | pinReset
  /-- PART_READY (R145): readiness after a reset, with BAUD[1:0] and the level of RXD as they are sampled then. -/
  | partReady (baud : BitVec 2) (rxd : Level)
  /-- TAKE (R104): one assertion of DxTK. -/
  | take (d : DrainId)
  /-- STALL_TIMER_EXPIRY (R121). -/
  | stallTimerExpiry (d : DrainId)
  /-- RXD_RETURNS_HIGH (R142): RXD is sampled high again after a low run. -/
  | rxdReturnsHigh
  /-- FRAME_BYTE_TAKEN (R129): a good byte is taken on RXD. -/
  | frameByteTaken (byte : Byte)
  deriving DecidableEq, Repr

end Sys2Proof
end

