-- ==== Sys2Proof/WellFormed.lean ====
section
/-! DEFINITION. The static check of a command: LEN_REFUSED is the event of a LEN byte outside 2..250 (R129). Every other operand ranges over the whole of its type. -/

namespace Sys2Proof

/-- A LEN byte that the receiver refuses (R129): 0, 1 or 251..255. -/
def lenIsRefused (len : Byte) : Bool :=
  len.toNat < 2 || 250 < len.toNat

/-- The command is one the spec's table describes. -/
def Instr.wellFormed : Instr → Bool
  | .lenRefused len => lenIsRefused len
  | .frameStart | .lineStart | .pixel _ | .lineEnd | .frameEnd => true
  | .identify | .status | .reset | .setInput | .startInput | .stopInputNow | .stopInputFrameEnd => true
  | .defineRegion | .clearRegion | .getRegion | .commit | .cancelCommit | .haltRegion | .regionStatus => true
  | .fetch | .read | .release | .flush => true
  | .setDrainEnable | .setDrainDisable | .setDrainAbort | .drainStatus | .poolStatus | .setNotices => true
  | .unknownRequest | .replay | .requestFrame _ | .framingError | .gapTimerExpiry | .linkBreak | .frameSent => true
  | .pinReset | .partReady _ _ | .take _ | .stallTimerExpiry _ | .rxdReturnsHigh | .frameByteTaken _ => true

end Sys2Proof
end

