-- ==== Sys2Proof/Decode.lean ====
section
/-! DEFINITION. The command that a word of the opcode table's bits spells. The table gives no row any bits, so no word spells a command. -/

namespace Sys2Proof

/-- No row of spec/opcode_table.json has bits ("fields" is empty in every row and there is no "fixed"). -/
def decodeTableWord (_nbits _w : Nat) : Option Instr := none

end Sys2Proof
end

