-- ==== Sys2Proof/Machine/State.lean ====
section
/-! DEFINITION. Everything the spec gives the CS-1620 to hold, block by block, as plain data; the machine right after reset; the reasons a step can stop (there are none but the host's form). -/

namespace Sys2Proof.Machine

/-! ### Names and small records -/

/-- A region id 0..15. -/
abbrev RegionId := Fin 16

/-- All region ids, ascending: the order in which every step serves them (R45, R51, R55, R58, R74). -/
def allRegions : List RegionId := [0, 1, 2, 3, 4, 5, 6, 7, 8, 9, 10, 11, 12, 13, 14, 15]

/-- A value for each region. -/
abbrev PerRegion (α : Type) := Vector α 16

/-- Framer states (R24). -/
inductive FramerState where
  | stopped
  | waiting
  | inFrame
  | skipping
  deriving DecidableEq, Repr

/-- Pixel depth (R22, R24). -/
inductive Depth where
  | bits8
  | bits10
  | bits12
  deriving DecidableEq, Repr

/-- Events of the INPUT notice (R154, 9.7): the five error kinds of R33 and the entry into STOPPED. -/
inductive InputEvent where
  | lineLong
  | lineShort
  | frameLong
  | frameShort
  | strayLine
  | stopped
  deriving DecidableEq, Repr

/-- The Framer's error counts, saturating at 65535 (R33). -/
structure ErrorCounts where
  lineLong : Half
  lineShort : Half
  frameLong : Half
  frameShort : Half
  strayLine : Half
  deriving DecidableEq, Repr

/-- The Input Framer (R24). -/
structure Framer where
  state : FramerState
  stopPending : Bool
  width : Nat
  height : Nat
  depth : Depth
  frameNumber : Word
  /-- Lines of the current frame that have ended correctly; the row number of the line now arriving. -/
  linesDone : Nat
  /-- Pixels taken in the current line. -/
  pixelCount : Nat
  /-- Previous FV level. -/
  fv : Level
  /-- Previous LV level. -/
  lv : Level
  errors : ErrorCounts
  deriving DecidableEq, Repr

/-- Where a region's captures go (R2). -/
inductive Route where
  | link
  | drain (d : DrainId)
  deriving DecidableEq, Repr

/-- Capture mode; the count is present in COUNT mode only (R1, R2). -/
inductive Mode where
  | continuous
  | count (n : Half)
  deriving DecidableEq, Repr

/-- Which capture a region gives up when it runs short (R2). -/
inductive Policy where
  | keepOld
  | keepNew
  deriving DecidableEq, Repr

/-- A complete region definition (R2). -/
structure RegionDef where
  x0 : Nat
  y0 : Nat
  width : Nat
  height : Nat
  colStep : Nat
  rowStep : Nat
  stride : Nat
  mode : Mode
  route : Route
  depth : Nat
  reserve : Nat
  limit : Nat
  policy : Policy
  label : Option Half
  deriving DecidableEq, Repr

/-- Run state of an active entry (R4). -/
inductive RunState where
  | unused
  | armed
  | done
  | halted
  deriving DecidableEq, Repr

/-- An active entry: the definition, if any, and the runtime (R3). -/
structure ActiveEntry where
  definition : Option RegionDef
  run : RunState
  phase : Nat
  remaining : Half
  completed : Half
  nextSeq : Half
  lost : Half
  deriving DecidableEq, Repr

/-- The Region Table (R1, R3, R15). A staged entry is UNUSED when it is `none` and DEFINED when it is `some`. -/
structure RegionTable where
  staged : PerRegion (Option RegionDef)
  active : PerRegion ActiveEntry
  commitPending : Bool
  deriving DecidableEq, Repr

/-- The Capture Memory (R66): the free pool, and the bytes of the 512 blocks. Byte o of block b is cell 512 b + o. -/
structure CaptureMemory where
  freePool : List Nat
  cells : List Host.Cell
  deriving DecidableEq, Repr

/-- Fill state of a capture (R41). -/
inductive Fill where
  | filling
  | complete
  | abandoned
  deriving DecidableEq, Repr

/-- Delivery state of a capture (R41). -/
inductive Delivery where
  | waiting
  | active
  deriving DecidableEq, Repr

/-- Reasons of a loss (9.7). -/
inductive LossReason where
  | depth
  | noRecord
  | noBlocks
  | discarded
  | lineError
  | frameError
  | shortFrame
  | inputStopped
  | halted
  | drainAbort
  | drainStall
  deriving DecidableEq, Repr

/-- An in-use capture record (R41) with the number 0..47 of the record that holds it. -/
structure Capture where
  slot : Nat
  region : RegionId
  seq : Half
  frame : Word
  outW : Nat
  outH : Nat
  /-- Bytes per stored pixel, p. -/
  bpp : Nat
  route : Route
  label : Option Half
  bytesExpected : Nat
  bytesWritten : Nat
  fill : Fill
  delivery : Delivery
  /-- Block numbers that hold the capture's bytes, in offset order (R67). -/
  chain : List Nat
  bytesSent : Nat
  abandonReason : Option LossReason
  deriving DecidableEq, Repr

/-- Drain states (R103). -/
inductive DrainState where
  | disabled
  | idle
  | streaming
  | stopping
  | fault
  deriving DecidableEq, Repr

/-- Head position: the part and the index of the next word of the head (R103, R108). -/
inductive Position where
  | header (i : Nat)
  | data (k : Nat)
  | trailer (j : Nat)
  deriving DecidableEq, Repr

/-- A timer is stopped or running (R103); how long it has run is not held (log 4). -/
inductive Timer where
  | stopped
  | running
  deriving DecidableEq, Repr

/-- A drain port (R103). The queue holds record numbers, oldest first; its first entry is the head. -/
structure Drain where
  state : DrainState
  queue : List Nat
  grain : Nat
  timeout : Nat
  timer : Timer
  burst : Nat
  position : Option Position
  wordsTaken : Nat
  /-- The level of DxRQ. -/
  rq : Level
  stray : Half
  deriving DecidableEq, Repr

/-- Cause of a reset (R153). -/
inductive ResetCause where
  | pin
  | request
  deriving DecidableEq, Repr

/-- An entry of the notice set, with the payload items of its kind (R146, R148, R154). The fault kind of DRAIN is STALL. -/
inductive Notice where
  | started (cause : ResetCause)
  | ready (r : RegionId)
  | lost (r : RegionId) (count : Byte) (last : LossReason)
  | done (r : RegionId)
  | applied (frame : Word)
  | input (event : InputEvent) (frame : Word)
  | drain (d : DrainId)
  | overrun (count : Byte)
  deriving DecidableEq, Repr

/-- The setting of a notice kind in the mask (R151). -/
inductive NoticeSetting where
  | enabled
  | masked
  deriving DecidableEq, Repr

/-- A request of the request queue (R132). -/
structure Request where
  kind : Byte
  tag : Byte
  payload : List Byte
  deriving DecidableEq, Repr

/-- A reply of the reply queue: kind, tag, and the payload, which begins with the status (R137). -/
structure Reply where
  kind : Byte
  tag : Byte
  payload : List Byte
  deriving DecidableEq, Repr

/-- The record of the last-reply store: tag and kind of the last request executed, and its reply (R135). -/
structure StoredReply where
  tag : Byte
  kind : Byte
  reply : Reply
  deriving DecidableEq, Repr

/-- The receiver's state with the partial frame it holds (R127, R129). `body` and `crc` hold LEN and the body bytes taken;
`crc` holds the CRC's low byte once it has been taken. -/
inductive Receiver where
  | hunt
  | length
  | body (len : Byte) (taken : List Byte)
  | crc (len : Byte) (taken : List Byte) (low : Option Byte)
  deriving DecidableEq, Repr

/-- RXD as the receiver has judged it (R128, R142): sampled high; low in a run that has made no break yet; low in a run
whose break has been taken. -/
inductive RxLine where
  | high
  | low
  | broken
  deriving DecidableEq, Repr

/-- The transmitter (R139). A notice being sent carries the payload it had when the arbiter chose it (R150); a reply being
sent is the one at the head of the reply queue (R137). -/
inductive Transmitter where
  | idle
  | sendingReply
  | sendingNotice (n : Notice)
  deriving DecidableEq, Repr

/-- The Link Controller (R127). -/
structure Link where
  /-- Link rate as the code of BAUD[1:0] (R128). -/
  rate : BitVec 2
  receiver : Receiver
  rxd : RxLine
  requests : List Request
  replies : List Reply
  lastReply : Option StoredReply
  notices : List Notice
  /-- Settings of the kinds with codes 41h..47h, in that order (R151). -/
  mask : Vector NoticeSetting 7
  transmitter : Transmitter
  repliesInRow : Nat
  resetPending : Bool
  receiveDiscards : Half
  overruns : Half
  deriving DecidableEq, Repr

/-- Whether the part takes bytes on RXD, or waits for readiness after a reset with the cause that STARTED will carry
(R140, R145, R153). -/
inductive Readiness where
  | ready
  | resetting (cause : ResetCause)
  deriving DecidableEq, Repr

/-- A pixel that the Extractor has begun to pass on and that still has regions to reach: its column, row and value (R29, R51), and the
regions not yet served, in ascending id. The first of them is about to ask for a block, and frees from elsewhere may come before that
request is taken (R74, R80; log 21). -/
structure PixelInHand where
  x : Nat
  y : Nat
  value : Half
  rest : List RegionId
  deriving DecidableEq, Repr

/-! ### The state -/

/-- The state of the CS-1620. -/
structure State where
  framer : Framer
  table : RegionTable
  /-- The pixel between two of whose block requests the Extractor stands, if any (R74). -/
  inHand : Option PixelInHand
  memory : CaptureMemory
  /-- The in-use records of the Capture Directory, in opening order (R41, R83). -/
  captures : List Capture
  drainA : Drain
  drainB : Drain
  link : Link
  readiness : Readiness
  /-- The commands that wait, first in, first out. -/
  pending : List Instr
  deriving DecidableEq, Repr

/-! ### Reset -/

/-- R24. -/
def Framer.reset : Framer :=
  { state := .stopped, stopPending := false, width := 640, height := 480, depth := .bits8, frameNumber := 0,
    linesDone := 0, pixelCount := 0, fv := .low, lv := .low,
    errors := { lineLong := 0, lineShort := 0, frameLong := 0, frameShort := 0, strayLine := 0 } }

/-- R3, reset column. -/
def ActiveEntry.reset : ActiveEntry :=
  { definition := none, run := .unused, phase := 0, remaining := 0, completed := 0, nextSeq := 0, lost := 0 }

/-- R8. -/
def RegionTable.reset : RegionTable :=
  { staged := Vector.replicate 16 none, active := Vector.replicate 16 ActiveEntry.reset, commitPending := false }

/-- R82: every block is free. No byte is listed (log 7). -/
def CaptureMemory.reset : CaptureMemory :=
  { freePool := List.range Config.blocks, cells := [] }

/-- R103. -/
def Drain.reset : Drain :=
  { state := .disabled, queue := [], grain := 32, timeout := 0, timer := .stopped, burst := 0, position := none,
    wordsTaken := 0, rq := .low, stray := 0 }

/-- R127. The link rate and the judged RXD level before readiness are DESIGN CHOICES (log 6). -/
def Link.reset : Link :=
  { rate := 0, receiver := .hunt, rxd := .low, requests := [], replies := [], lastReply := none, notices := [],
    mask := Vector.replicate 7 .enabled, transmitter := .idle, repliesInRow := 0, resetPending := false,
    receiveDiscards := 0, overruns := 0 }

/-- The part right after a pin reset or power-up, waiting for readiness (log 5). -/
def State.reset : State :=
  { framer := Framer.reset, table := RegionTable.reset, inHand := none, memory := CaptureMemory.reset,
    captures := [], drainA := Drain.reset, drainB := Drain.reset, link := Link.reset, readiness := .resetting .pin, pending := [] }

/-! ### Stops -/

/-- The part has no fault that stops it: every error the spec names is counted, noticed and recovered from by the part
itself. No meaning ends in a fault. -/
inductive Fault where
  deriving DecidableEq, Repr

/-- Refusals. -/
inductive Refusal where
  /-- Raised by the dispatch for a command that has no meaning yet. Safe: nothing can be proved of what it does. -/
  | notModelled (mnemonic : String)
  deriving DecidableEq, Repr

end Sys2Proof.Machine
end

