-- ==== Sys2Proof/Machine/Memory.lean ====
section
/-! DEFINITION. The bytes of the capture memory: a list of cells in one canonical form, with its read and its write. -/

namespace Sys2Proof.Machine

/-- What a cell that is not listed reads as (log 7): no reply and no drain word ever shows it (R66). -/
def Memory.fill : Byte := 0

/-- The canonical form: addresses strictly rising, and no entry equal to what an unlisted cell reads as. -/
abbrev Memory.wf (m : List Host.Cell) : Prop :=
  m.Pairwise (fun x y => x.1 < y.1) ∧ ∀ c ∈ m, c.2 ≠ Memory.fill

/-- The byte of cell `a`. -/
def Memory.read : List Host.Cell → Nat → Byte
  | [], _ => Memory.fill
  | (k, v) :: rest, a => if k = a then v else Memory.read rest a

/-- Cell `a` takes the byte `v`; the canonical form is kept. -/
def Memory.write : List Host.Cell → Nat → Byte → List Host.Cell
  | [], a, v => if v = Memory.fill then [] else [(a, v)]
  | (k, w) :: rest, a, v =>
    if a < k then
      if v = Memory.fill then (k, w) :: rest else (a, v) :: (k, w) :: rest
    else if a = k then
      if v = Memory.fill then rest else (a, v) :: rest
    else (k, w) :: Memory.write rest a v

/-- The cell that holds byte `o` of block `b` (R66). -/
def cellOf (b o : Nat) : Nat := Config.blockSize * b + o

end Sys2Proof.Machine
end

