-- ==== Sys2Proof/Machine/Operands.lean ====
section
/-! DEFINITION. How the operands of requests are read from payload bytes and how replies and notices are laid out (chapter 9): integers low byte first, the code tables of 9.7, the region entry encoding of 9.3, the statuses of R162, the CRC of R160. -/

namespace Sys2Proof.Machine

/-! ### Integers (R161) -/

/-- Byte `i` of a payload. -/
def byteAt (p : List Byte) (i : Nat) : Byte := p.getD i 0

/-- The 1-byte unsigned integer at offset `i`. -/
def nat1 (p : List Byte) (i : Nat) : Nat := (byteAt p i).toNat

/-- The 2-byte unsigned integer at offset `i`, low byte first. -/
def nat2 (p : List Byte) (i : Nat) : Nat := nat1 p i + 256 * nat1 p (i + 1)

/-- The 4-byte unsigned integer at offset `i`, low byte first. -/
def nat4 (p : List Byte) (i : Nat) : Nat := nat2 p i + 65536 * nat2 p (i + 2)

/-- A number in one byte. -/
def put1 (n : Nat) : List Byte := [BitVec.ofNat 8 n]

/-- A number in two bytes, low byte first. -/
def put2 (n : Nat) : List Byte := [BitVec.ofNat 8 n, BitVec.ofNat 8 (n / 256)]

/-- A number in four bytes, low byte first. -/
def put4 (n : Nat) : List Byte := put2 n ++ put2 (n / 65536)

/-- A flag in one byte: 00h or 01h. -/
def putFlag (b : Bool) : List Byte := if b then [1] else [0]

/-- A saturating count (Conventions): it stays at its largest value. -/
def satInc {w : Nat} (n : BitVec w) : BitVec w := if n = BitVec.allOnes w then n else n + 1

/-! ### Named values (9.7) -/

/-- The region id a number names, if it lies in 0..15. -/
def regionOf (n : Nat) : Option RegionId := if h : n < 16 then some ⟨n, h⟩ else none

/-- Codes of the drains. -/
def drainOf (b : Byte) : Option DrainId := if b = 0 then some .a else if b = 1 then some .b else none

/-- Codes of the drains. -/
def drainCode : DrainId → Byte
  | .a => 0
  | .b => 1

/-- Codes of the routes. -/
def routeOf (b : Byte) : Option Route :=
  if b = 0 then some .link else if b = 1 then some (.drain .a) else if b = 2 then some (.drain .b) else none

/-- Codes of the routes. -/
def routeCode : Route → Byte
  | .link => 0
  | .drain .a => 1
  | .drain .b => 2

/-- Codes of the policies. -/
def policyOf (b : Byte) : Option Policy := if b = 0 then some .keepOld else if b = 1 then some .keepNew else none

/-- Codes of the policies. -/
def policyCode : Policy → Byte
  | .keepOld => 0
  | .keepNew => 1

/-- Pixel depth is sent as the plain number 8, 10 or 12 (R161). -/
def depthOf (b : Byte) : Option Depth :=
  if b = 8 then some .bits8 else if b = 10 then some .bits10 else if b = 12 then some .bits12 else none

/-- Pixel depth is sent as the plain number 8, 10 or 12 (R161). -/
def depthCode : Depth → Byte
  | .bits8 => 8
  | .bits10 => 10
  | .bits12 => 12

/-- Codes of the notice settings. -/
def settingOf (b : Byte) : Option NoticeSetting :=
  if b = 0 then some .enabled else if b = 1 then some .masked else none

/-- Codes of the notice settings. -/
def settingCode : NoticeSetting → Byte
  | .enabled => 0
  | .masked => 1

/-- Codes of the framer states. -/
def framerCode : FramerState → Byte
  | .stopped => 0
  | .waiting => 1
  | .inFrame => 2
  | .skipping => 3

/-- Codes of the run states. -/
def runCode : RunState → Byte
  | .unused => 0
  | .armed => 1
  | .done => 2
  | .halted => 3

/-- Codes of the drain states. -/
def drainStateCode : DrainState → Byte
  | .disabled => 0
  | .idle => 1
  | .streaming => 2
  | .stopping => 3
  | .fault => 4

/-- Codes of the loss reasons. -/
def lossCode : LossReason → Byte
  | .depth => 1
  | .noRecord => 2
  | .noBlocks => 3
  | .discarded => 4
  | .lineError => 5
  | .frameError => 6
  | .shortFrame => 7
  | .inputStopped => 8
  | .halted => 9
  | .drainAbort => 10
  | .drainStall => 11

/-- Codes of the input events. -/
def inputCode : InputEvent → Byte
  | .lineLong => 1
  | .lineShort => 2
  | .frameLong => 3
  | .frameShort => 4
  | .strayLine => 5
  | .stopped => 6

/-- Codes of the reset causes (R163). -/
def causeCode : ResetCause → Byte
  | .pin => 0
  | .request => 1

/-- Codes of the head fill in DRAIN_STATUS (R162). -/
def fillCode : Fill → Byte
  | .filling => 0
  | .complete => 1
  | .abandoned => 2

/-- Codes of the capture state of a REGION_STATUS entry. ABANDONED/WAITING does not exist (R42). -/
def captureStateCode : Fill → Delivery → Byte
  | .filling, .waiting => 0
  | .filling, .active => 1
  | .complete, .waiting => 2
  | .complete, .active => 3
  | .abandoned, _ => 4

/-! ### Request kinds (9.3) -/

/-- The request kinds of the catalogue. -/
inductive ReqKind where
  | identify
  | status
  | reset
  | setInput
  | startInput
  | stopInput
  | defineRegion
  | clearRegion
  | getRegion
  | commit
  | cancelCommit
  | haltRegion
  | regionStatus
  | fetch
  | read
  | release
  | flush
  | setDrain
  | drainStatus
  | poolStatus
  | setNotices
  deriving DecidableEq, Repr

/-- Request code of a kind (9.3). -/
def ReqKind.code : ReqKind → Byte
  | .identify => 0x01
  | .status => 0x02
  | .reset => 0x03
  | .setInput => 0x08
  | .startInput => 0x09
  | .stopInput => 0x0A
  | .defineRegion => 0x10
  | .clearRegion => 0x11
  | .getRegion => 0x12
  | .commit => 0x13
  | .cancelCommit => 0x14
  | .haltRegion => 0x15
  | .regionStatus => 0x16
  | .fetch => 0x18
  | .read => 0x19
  | .release => 0x1A
  | .flush => 0x1B
  | .setDrain => 0x20
  | .drainStatus => 0x21
  | .poolStatus => 0x28
  | .setNotices => 0x30

/-- Payload bytes of a kind (9.3). -/
def ReqKind.payloadLength : ReqKind → Nat
  | .setInput => 5
  | .stopInput => 1
  | .defineRegion => 25
  | .clearRegion => 1
  | .getRegion => 2
  | .haltRegion => 1
  | .regionStatus => 1
  | .fetch => 1
  | .read => 8
  | .release => 3
  | .flush => 1
  | .setDrain => 4
  | .drainStatus => 1
  | .setNotices => 7
  | .identify | .status | .reset | .startInput | .commit | .cancelCommit | .poolStatus => 0

/-- The request kinds, in the order of the catalogue. -/
def ReqKind.all : List ReqKind :=
  [.identify, .status, .reset, .setInput, .startInput, .stopInput, .defineRegion, .clearRegion, .getRegion, .commit,
   .cancelCommit, .haltRegion, .regionStatus, .fetch, .read, .release, .flush, .setDrain, .drainStatus, .poolStatus,
   .setNotices]

/-- Whether a KIND byte is one of the request codes of the catalogue (R134). -/
def isRequestCode (kind : Byte) : Bool := ReqKind.all.any (fun k => k.code = kind)

/-! ### Replies (R162) -/

/-- Payload of an OK reply. -/
def replyOk (items : List Byte) : List Byte := 0x00 :: items

/-- Payload of an UNKNOWN reply. -/
def replyUnknown : List Byte := [0x01]

/-- Payload of a LENGTH reply. -/
def replyLength : List Byte := [0x02]

/-- Payload of a VALUE reply, which names the field index (R162), for FETCH too (DESIGN CHOICE, log 22). -/
def replyValue (field : Nat) : List Byte := 0x03 :: put1 field

/-- Payload of a STATE reply. -/
def replyState : List Byte := [0x04]

/-- Payload of a PENDING reply. -/
def replyPending : List Byte := [0x05]

/-- Payload of an EMPTY reply. -/
def replyEmpty : List Byte := [0x06]

/-- Payload of a RANGE reply, which carries the byte length of the fetched capture. -/
def replyRange (byteLength : Nat) : List Byte := 0x07 :: put4 byteLength

/-- Payload of a MISMATCH reply, which carries the fetched seq or states that none is fetched. -/
def replyMismatch : Option Half → List Byte
  | none => 0x08 :: 0x00 :: put2 0
  | some seq => 0x08 :: 0x01 :: put2 seq.toNat

/-- Payload of a ROUTE reply. -/
def replyRoute : List Byte := [0x09]

/-- Causes of a FIT refusal (R13). -/
inductive FitCause where
  | outside
  | tooLarge
  | reserves
  deriving DecidableEq, Repr

/-- Codes of the causes (R162). -/
def FitCause.code : FitCause → Byte
  | .outside => 1
  | .tooLarge => 2
  | .reserves => 3

/-- Payload of a FIT reply, which names the region and the cause. -/
def replyFit (r : RegionId) (cause : FitCause) : List Byte := 0x0A :: BitVec.ofNat 8 r.val :: [cause.code]

/-! ### The region entry encoding (9.3) -/

/-- The index of the first check that fails. -/
def firstFailing (checks : List Bool) : Option Nat := checks.findIdx? (fun ok => !ok)

/-- Values of a decimation step (R2). -/
def stepInRange (n : Nat) : Bool := n = 1 || n = 2 || n = 4 || n = 8

/-- The checks of DEFINE_REGION in the order of the field index (R10). -/
def defineChecks (p : List Byte) : List Bool :=
  [ nat1 p 0 < 16,
    nat2 p 1 ≤ 4095,
    nat2 p 3 ≤ 4095,
    1 ≤ nat2 p 5 && nat2 p 5 ≤ 4096,
    1 ≤ nat2 p 7 && nat2 p 7 ≤ 4096,
    stepInRange (nat1 p 9),
    stepInRange (nat1 p 10),
    1 ≤ nat1 p 11 && nat1 p 11 ≤ 64,
    byteAt p 12 = 0 || byteAt p 12 = 1,
    byteAt p 12 ≠ 1 || 1 ≤ nat2 p 13,
    (routeOf (byteAt p 15)).isSome,
    1 ≤ nat1 p 16 && nat1 p 16 ≤ 8,
    nat2 p 17 ≤ 512,
    1 ≤ nat2 p 19 && nat2 p 19 ≤ 512 && nat2 p 17 ≤ nat2 p 19,
    (policyOf (byteAt p 21)).isSome,
    byteAt p 22 = 0 || byteAt p 22 = 1,
    true ]

/-- The definition that a DEFINE_REGION payload carries (9.3), with no count in CONTINUOUS mode and no label where it is
given as absent (R9, R161). -/
def readDefinition (p : List Byte) : RegionDef :=
  { x0 := nat2 p 1, y0 := nat2 p 3, width := nat2 p 5, height := nat2 p 7,
    colStep := nat1 p 9, rowStep := nat1 p 10, stride := nat1 p 11,
    mode := if byteAt p 12 = 1 then .count (BitVec.ofNat 16 (nat2 p 13)) else .continuous,
    route := (routeOf (byteAt p 15)).getD .link,
    depth := nat1 p 16, reserve := nat2 p 17, limit := nat2 p 19,
    policy := (policyOf (byteAt p 21)).getD .keepOld,
    label := if byteAt p 22 = 1 then some (BitVec.ofNat 16 (nat2 p 23)) else none }

/-- Mode code and count of a definition (9.3). -/
def putMode : Mode → List Byte
  | .continuous => 0x00 :: put2 0
  | .count n => 0x01 :: put2 n.toNat

/-- Label-present code and label value (9.3). -/
def putLabel : Option Half → List Byte
  | none => 0x00 :: put2 0
  | some l => 0x01 :: put2 l.toNat

/-- The 24 bytes of a definition (9.3). -/
def putDefinition (d : RegionDef) : List Byte :=
  put2 d.x0 ++ put2 d.y0 ++ put2 d.width ++ put2 d.height ++ put1 d.colStep ++ put1 d.rowStep ++ put1 d.stride ++
  putMode d.mode ++ [routeCode d.route] ++ put1 d.depth ++ put2 d.reserve ++ put2 d.limit ++ [policyCode d.policy] ++
  putLabel d.label

/-- The 24 bytes of an entry; an entry with no definition reads as zeros (9.3, R12). -/
def putEntry : Option RegionDef → List Byte
  | none => List.replicate 24 0
  | some d => putDefinition d

/-! ### Frames (9.1, R160) -/

/-- One shift of the CRC register (R160, step 3). -/
def crcShift (c : Half) : Half := if c.msb then (c <<< 1) ^^^ 0x1021 else c <<< 1

/-- One byte into the CRC register (R160, steps 2 and 3). -/
def crcByte (c : Half) (b : Byte) : Half :=
  crcShift <| crcShift <| crcShift <| crcShift <| crcShift <| crcShift <| crcShift <| crcShift <|
    c ^^^ (b.setWidth 16 <<< 8)

/-- The CRC of the covered bytes (R160). -/
def crc (covered : List Byte) : Half := covered.foldl crcByte 0xFFFF

/-- The bytes of a frame on the line: SYNC, LEN, KIND, TAG, PAYLOAD, CRC low byte first (9.1). -/
def frameBytes (kind tag : Byte) (payload : List Byte) : List Byte :=
  let covered := BitVec.ofNat 8 (payload.length + 2) :: kind :: tag :: payload
  0xC5 :: covered ++ put2 (crc covered).toNat

/-- Kinds of notices, in the order of their codes 40h..47h (R146). -/
def noticeIndex : Notice → Nat
  | .started _ => 0
  | .ready _ => 1
  | .lost _ _ _ => 2
  | .done _ => 3
  | .applied _ => 4
  | .input _ _ => 5
  | .drain _ => 6
  | .overrun _ => 7

/-- Code of a notice's kind (R146). -/
def noticeCode (n : Notice) : Byte := BitVec.ofNat 8 (0x40 + noticeIndex n)

/-- Payload of a notice (R163). -/
def noticePayload : Notice → List Byte
  | .started cause => causeCode cause :: put1 Config.revision
  | .ready r => put1 r.val
  | .lost r count last => put1 r.val ++ [count, lossCode last]
  | .done r => put1 r.val
  | .applied frame => put4 frame.toNat
  | .input event frame => inputCode event :: put4 frame.toNat
  | .drain d => [drainCode d, 1]
  | .overrun count => [count]

/-! ### Pixels (R22, R52) -/

/-- Bytes per stored pixel, p (R34). -/
def Depth.bpp : Depth → Nat
  | .bits8 => 1
  | .bits10 => 2
  | .bits12 => 2

/-- The pixel value: PD on the low lines of the depth, the lines above ignored (R22). -/
def pixelValue (depth : Depth) (pd : PixelLines) : Half :=
  match depth with
  | .bits8 => (pd &&& 0x0FF).setWidth 16
  | .bits10 => (pd &&& 0x3FF).setWidth 16
  | .bits12 => pd.setWidth 16

/-- The bytes stored for a pixel: low byte first (R52). -/
def pixelBytes (bpp : Nat) (v : Half) : List Byte :=
  if bpp = 1 then [v.setWidth 8] else [v.setWidth 8, (v >>> 8).setWidth 8]

end Sys2Proof.Machine
end

