-- ==== Sys2Proof/Machine/Flags.lean ====
section
/-! DEFINITION. What the part computes from its state whenever it is asked: sizes of a region, sampling, lists and counts of the Directory, block accounting, link-served, the words, pins and burst condition of a drain, the frame on TXD. -/

namespace Sys2Proof.Machine

/-! ### Sizes and sampling (R2, Conventions) -/

/-- ceil(n / k). -/
def ceilDiv (n k : Nat) : Nat := (n + k - 1) / k

/-- Output width (R2). -/
def RegionDef.outW (d : RegionDef) : Nat := ceilDiv d.width d.colStep

/-- Output height (R2). -/
def RegionDef.outH (d : RegionDef) : Nat := ceilDiv d.height d.rowStep

/-- Capture size in bytes at `bpp` bytes per pixel (R2). -/
def RegionDef.bytes (d : RegionDef) (bpp : Nat) : Nat := d.outW * d.outH * bpp

/-- Capture size in blocks at `bpp` bytes per pixel (R2). -/
def RegionDef.blocks (d : RegionDef) (bpp : Nat) : Nat := ceilDiv (d.bytes bpp) Config.blockSize

/-- Pixel (x, y) is sampled by the region (R2). -/
def RegionDef.samples (d : RegionDef) (x y : Nat) : Bool :=
  d.x0 ≤ x && x < d.x0 + d.width && (x - d.x0) % d.colStep = 0 &&
  d.y0 ≤ y && y < d.y0 + d.height && (y - d.y0) % d.rowStep = 0

/-- The last sampled row of a capture of the region (R30, R55). -/
def RegionDef.lastRow (d : RegionDef) (outH : Nat) : Nat := d.y0 + (outH - 1) * d.rowStep

/-- The region does not lie within a W × H frame (R13, R35). -/
def RegionDef.isOutside (d : RegionDef) (w h : Nat) : Bool := w < d.x0 + d.width || h < d.y0 + d.height

/-- A LINK capture of the region needs more blocks than its limit (R13, R35). -/
def RegionDef.isTooLarge (d : RegionDef) (bpp : Nat) : Bool := d.route = .link && d.limit < d.blocks bpp

/-- The active entry of region `r`. -/
def State.entry (s : State) (r : RegionId) : ActiveEntry := s.table.active[r]

/-- Drain `d`. -/
def State.drain (s : State) : DrainId → Drain
  | .a => s.drainA
  | .b => s.drainB

/-! ### The Directory (R41, R43, R46, R83, R84, R85) -/

/-- The in-use record with number `slot`. -/
def State.capture (s : State) (slot : Nat) : Option Capture := s.captures.find? (fun c => c.slot = slot)

/-- The capture list of region `r`, oldest first (R83). -/
def State.captureList (s : State) (r : RegionId) : List Capture := s.captures.filter (fun c => c.region = r)

/-- The open capture of region `r`: its FILLING capture (R43). -/
def State.openCapture (s : State) (r : RegionId) : Option Capture :=
  (s.captureList r).find? (fun c => c.fill = .filling)

/-- The fetched capture of region `r`: its ACTIVE capture of route LINK (R85). -/
def State.fetched (s : State) (r : RegionId) : Option Capture :=
  (s.captureList r).find? (fun c => c.route = .link && c.delivery = .active)

/-- A capture is COMPLETE/WAITING: a candidate for KEEP_NEW discard and for FLUSH (R83). -/
def Capture.isWaiting (c : Capture) : Bool := c.fill = .complete && c.delivery = .waiting

/-- The COMPLETE/WAITING captures of region `r`, oldest first (R77, R94). -/
def State.candidates (s : State) (r : RegionId) : List Capture := (s.captureList r).filter Capture.isWaiting

/-- The COMPLETE captures the depth check counts (R46). -/
def State.completeCount (s : State) (r : RegionId) : Nat :=
  ((s.captureList r).filter (fun c => c.fill = .complete)).length

/-- The link captures of region `r` that a FETCH can find, oldest first (R88). -/
def State.fetchable (s : State) (r : RegionId) : List Capture :=
  (s.candidates r).filter (fun c => c.route = .link)

/-- The record pool: the numbers of the free records (R84). -/
def State.freeRecords (s : State) : List Nat :=
  (List.range Config.records).filter (fun n => !(s.captures.any (fun c => c.slot = n)))

/-- Region `r` is link-served (R86). A fetched capture is a link capture in the list, so the third condition is in the second. -/
def State.linkServed (s : State) (r : RegionId) : Bool :=
  (match (s.entry r).definition with
   | some d => d.route = .link && (s.entry r).run ≠ .unused
   | none => false) ||
  (s.captureList r).any (fun c => c.route = .link)

/-! ### Block accounting (R67, R68, R73) -/

/-- The free count (R66). -/
def State.freeCount (s : State) : Nat := s.memory.freePool.length

/-- held(r): the total length of the chains of region `r`'s captures (R67). -/
def State.held (s : State) (r : RegionId) : Nat := ((s.captureList r).map (fun c => c.chain.length)).sum

/-- reserve(r), 0 for an entry without a definition (R68). -/
def ActiveEntry.reserve (e : ActiveEntry) : Nat :=
  match e.definition with
  | some d => d.reserve
  | none => 0

/-- limit(r), 0 for an entry without a definition (R68). -/
def ActiveEntry.limit (e : ActiveEntry) : Nat :=
  match e.definition with
  | some d => d.limit
  | none => 0

/-- unmet(r) (R68). -/
def State.unmet (s : State) (r : RegionId) : Nat := (s.entry r).reserve - s.held r

/-- U_total (R68). -/
def State.unmetTotal (s : State) : Nat := (allRegions.map s.unmet).sum

/-- U_others(r) (R68). -/
def State.unmetOthers (s : State) (r : RegionId) : Nat := s.unmetTotal - s.unmet r

/-- The allocation rule (R73): a request for region `r` is granted when all three conditions hold. -/
def State.grantable (s : State) (r : RegionId) : Bool :=
  1 ≤ s.freeCount && s.held r < (s.entry r).limit &&
  (s.held r < (s.entry r).reserve || s.unmetOthers r < s.freeCount)

/-! ### Bytes of a capture (R66, R79) -/

/-- Byte `o` of a capture. The chain begins at the first block not yet freed by the drain (R79). -/
def State.captureByte (s : State) (c : Capture) (o : Nat) : Byte :=
  match c.chain[o / Config.blockSize - c.bytesSent / Config.blockSize]? with
  | some b => Memory.read s.memory.cells (cellOf b (o % Config.blockSize))
  | none => Memory.fill

/-- Bytes `offset` to `offset + length - 1` of a capture (R91). -/
def State.captureBytes (s : State) (c : Capture) (offset length : Nat) : List Byte :=
  (List.range length).map (fun i => s.captureByte c (offset + i))

/-! ### Words of a drain (R108, R109, R164) -/

/-- D, the number of data words of a capture (R108). -/
def Capture.dataWords (c : Capture) : Nat := ceilDiv c.bytesExpected 2

/-- The word after position `p` in a capture (R108, R113, R114). After trailer word 1 there is none. -/
def Capture.nextPosition (c : Capture) : Position → Option Position
  | .header i => if i + 1 < Config.headerWords then some (.header (i + 1)) else some (.data 0)
  | .data k => if k + 1 < c.dataWords then some (.data (k + 1)) else some (.trailer 0)
  | .trailer j => if j + 1 < Config.trailerWords then some (.trailer (j + 1)) else none

/-- Words of the capture that are not yet taken, at position `p`: header, data and trailer. -/
def Capture.wordsLeft (c : Capture) : Position → Nat
  | .header i => (Config.headerWords - i) + c.dataWords + Config.trailerWords
  | .data k => (c.dataWords - k) + Config.trailerWords
  | .trailer j => Config.trailerWords - j

/-- Available words of a head at position `p` (R109). -/
def Capture.available (c : Capture) (p : Position) : Nat :=
  match c.fill with
  | .filling =>
    match p with
    | .header i => (Config.headerWords - i) + c.bytesWritten / 2
    | .data k => c.bytesWritten / 2 - k
    | .trailer _ => 0
  | .complete => c.wordsLeft p
  | .abandoned =>
    match p with
    | .trailer j => Config.trailerWords - j
    | _ => 0

/-- The condition under which DxRQ rises or stays high (R110): the available words reach the grain, or they are every word
not yet taken and there is at least one. The second case never holds for a FILLING head. -/
def Capture.burstReady (c : Capture) (p : Position) (grain : Nat) : Bool :=
  grain ≤ c.available p || (c.fill ≠ .filling && 1 ≤ c.available p)

/-- The head of a drain: the record of the first entry of its queue (R103). -/
def State.head (s : State) (d : DrainId) : Option Capture :=
  match (s.drain d).queue with
  | [] => none
  | slot :: _ => s.capture slot

/-- Header word `i` of a capture (R164). -/
def Capture.headerWord (c : Capture) (i : Nat) : Half :=
  if i = 0 then 0x5AC3
  else if i = 1 then
    BitVec.ofNat 16 (c.region.val + 16 * c.bpp + (if c.label.isSome then 64 else 0))
  else if i = 2 then c.seq
  else if i = 3 then c.frame.setWidth 16
  else if i = 4 then (c.frame >>> 16).setWidth 16
  else if i = 5 then BitVec.ofNat 16 c.outW
  else if i = 6 then BitVec.ofNat 16 c.outH
  else c.label.getD 0

/-- Data word `k` of a capture (R164): byte 2k low, byte 2k + 1 high, and a zero high byte in an odd last word. -/
def State.dataWord (s : State) (c : Capture) (k : Nat) : Half :=
  let low := s.captureByte c (2 * k)
  let high := if 2 * k + 1 < c.bytesExpected then s.captureByte c (2 * k + 1) else 0
  high ++ low

/-- The status code of trailer word 0 (R164). -/
def Capture.trailerStatus (c : Capture) : Byte :=
  match c.abandonReason with
  | some reason => lossCode reason
  | none => 0

/-- The word at a position of the head (R108, R164). -/
def State.wordAt (s : State) (c : Capture) (wordsTaken : Nat) : Position → Half
  | .header i => c.headerWord i
  | .data k => s.dataWord c k
  | .trailer j => if j = 0 then c.trailerStatus.setWidth 16 else BitVec.ofNat 16 wordsTaken

/-- The word that the drain presents on DxD, while DxRQ is high (R104). -/
def State.presentedWord (s : State) (d : DrainId) : Option Half :=
  if (s.drain d).rq = .high then
    match s.head d, (s.drain d).position with
    | some c, some p => some (s.wordAt c (s.drain d).wordsTaken p)
    | _, _ => none
  else none

/-- DxSOC: high while header word 0 is presented (R104). -/
def State.startOfCapture (s : State) (d : DrainId) : Bool :=
  (s.drain d).rq = .high && (s.drain d).position = some (.header 0)

/-- DxEOC: high while trailer word 1 is presented (R104). -/
def State.endOfCapture (s : State) (d : DrainId) : Bool :=
  (s.drain d).rq = .high && (s.drain d).position = some (.trailer 1)

/-- The drain has an ACTIVE head: it is STREAMING or STOPPING (R103, R124). -/
def Drain.hasHead (d : Drain) : Bool := d.state = .streaming || d.state = .stopping

/-! ### The link (R127, R131, R136, R139) -/

/-- The gap timer runs in LENGTH, BODY and CRC (R131). -/
def Link.gapTimerRunning (l : Link) : Bool := l.receiver ≠ .hunt

/-- The request has the tag and kind of the record in the last-reply store (R136). -/
def Link.matchesStored (l : Link) (q : Request) : Bool :=
  match l.lastReply with
  | some stored => stored.tag = q.tag && stored.kind = q.kind
  | none => false

/-- The frame that the transmitter sends on TXD (R139). -/
def Link.frameOnLine (l : Link) : Option (List Byte) :=
  match l.transmitter, l.replies with
  | .sendingReply, r :: _ => some (frameBytes r.kind r.tag r.payload)
  | .sendingNotice n, _ => some (frameBytes (noticeCode n) 0 (noticePayload n))
  | _, _ => none

/-- A notice's kind is masked (R147, R151); STARTED never is. -/
def Link.isMasked (l : Link) (n : Notice) : Bool :=
  match noticeIndex n with
  | 0 => false
  | k + 1 => l.mask.toList[k]? = some .masked

/-- Two notices have the same kind and key (R146). -/
def sameKey : Notice → Notice → Bool
  | .started _, .started _ => true
  | .ready r, .ready r' => r = r'
  | .lost r _ _, .lost r' _ _ => r = r'
  | .done r, .done r' => r = r'
  | .applied _, .applied _ => true
  | .input _ _, .input _ _ => true
  | .drain d, .drain d' => d = d'
  | .overrun _, .overrun _ => true
  | _, _ => false

/-- A waiting entry updated by a later raise of its kind and key (R148). -/
def Notice.updatedBy (entry raised : Notice) : Notice :=
  match entry, raised with
  | .lost r count _, .lost _ _ last => .lost r (satInc count) last
  | .applied _, .applied frame => .applied frame
  | .input _ _, .input event frame => .input event frame
  | .overrun count, .overrun _ => .overrun (satInc count)
  | _, _ => entry

end Sys2Proof.Machine
end

