-- ==== Sys2Proof/Machine/Ops.lean ====
section
/-! DEFINITION. The operations that the commands share, each written once: the arbiter and the notice set, the execution of a request, the charging of a loss, freeing, discarding and abandoning captures, blocks, bursts and promotion of the drains, the apply of a commit, the entries into STOPPED and SKIPPING, the reset of the part. -/

namespace Sys2Proof.Machine

/-! ### Updates of one part of the state -/

/-- Drain `d` becomes `x`. -/
def State.setDrain (s : State) (d : DrainId) (x : Drain) : State :=
  match d with
  | .a => { s with drainA := x }
  | .b => { s with drainB := x }

/-- The active entry of region `r` becomes `e`. -/
def State.setEntry (s : State) (r : RegionId) (e : ActiveEntry) : State :=
  { s with table := { s.table with active := s.table.active.set r e } }

/-- The record `slot` is changed by `f`. -/
def State.updateCapture (s : State) (slot : Nat) (f : Capture → Capture) : State :=
  { s with captures := s.captures.map (fun c => if c.slot = slot then f c else c) }

/-! ### Transmit arbiter and notice set (R138, R147) -/

/-- The transmit arbiter's choice, made when the transmitter is IDLE (R138). With reset-pending set it chooses no notice
(R141). A chosen notice leaves the set at once; a chosen reply stays in the queue until it is sent. -/
def Link.arbitrate (l : Link) : Link :=
  match l.transmitter with
  | .idle =>
    match l.replies, (if l.resetPending then [] else l.notices) with
    | [], [] => l
    | [], n :: rest => { l with transmitter := .sendingNotice n, notices := rest, repliesInRow := 0 }
    | _ :: _, [] => { l with transmitter := .sendingReply, repliesInRow := 0 }
    | _ :: _, n :: rest =>
      if l.repliesInRow < Config.repliesBeforeNotice then
        { l with transmitter := .sendingReply, repliesInRow := l.repliesInRow + 1 }
      else { l with transmitter := .sendingNotice n, notices := rest, repliesInRow := 0 }
  | _ => l

/-- A raise into the notice set (R147): dropped while a reset is pending or the kind is masked; else it updates the waiting
entry of its kind and key in its place (R148), or creates an entry at the end of the set. -/
def Link.raise (l : Link) (n : Notice) : Link :=
  if l.resetPending then l
  else if l.isMasked n then l
  else if l.notices.any (fun e => sameKey e n) then
    { l with notices := l.notices.map (fun e => if sameKey e n then e.updatedBy n else e) }
  else ({ l with notices := l.notices ++ [n] } : Link).arbitrate

/-- A block raises a notice. -/
def State.raise (s : State) (n : Notice) : State := { s with link := s.link.raise n }

/-- A loss of region `r` (R7, R149): lost increases by 1, saturating, and LOST is raised with the reason. -/
def State.chargeLoss (s : State) (r : RegionId) (reason : LossReason) : State :=
  (s.setEntry r { s.entry r with lost := satInc (s.entry r).lost }).raise (.lost r 1 reason)

/-- An INPUT notice with the number of the last frame start taken (R33, R39). -/
def State.raiseInput (s : State) (event : InputEvent) : State := s.raise (.input event s.framer.frameNumber)

/-! ### Execution of the head request (R133 to R136) -/

/-- A reply is entered at the end of the reply queue, and the arbiter chooses if the transmitter is IDLE (R133, R138). -/
def Link.enterReply (l : Link) (reply : Reply) : Link :=
  ({ l with replies := l.replies ++ [reply] } : Link).arbitrate

/-- The reply to a request: its tag, and its kind plus 80h (R134, R162). -/
def replyTo (q : Request) (payload : List Byte) : Reply :=
  { kind := q.kind + 0x80, tag := q.tag, payload := payload }

/-- The end of an execution (R133, step 4): the request leaves the request queue, its reply is stored (R135) and entered. -/
def State.finish (s : State) (q : Request) (payload : List Byte) : State :=
  { s with
    link := ({ s.link with
      requests := s.link.requests.tail
      lastReply := some { tag := q.tag, kind := q.kind, reply := replyTo q payload } } : Link).enterReply
        (replyTo q payload) }

/-- A replay (R136): the stored reply is entered, the request leaves the queue, and the store is left as it was. -/
def State.replayHead (s : State) : State :=
  match s.link.lastReply with
  | none => s
  | some stored =>
    { s with link := ({ s.link with requests := s.link.requests.tail } : Link).enterReply stored.reply }

/-- The step of executing the head request for the rows of request kind `k` (R133). `form` says which payloads belong to
the row, where a kind has several rows. A head of another kind or form, or an empty queue, gives the step no place; with 4
replies queued the head waits. The replay check comes first, then the LENGTH check (R134), then the owning block's `body`,
which answers the state it leaves and the reply's payload. -/
def State.serve (s : State) (k : ReqKind) (form : List Byte → Bool) (body : State → List Byte → State × List Byte) :
    State :=
  match s.link.requests with
  | [] => s
  | q :: _ =>
    if q.kind = k.code && form q.payload then
      if s.link.replies.length < Config.replySlots then
        if s.link.matchesStored q then s.replayHead
        else if q.payload.length ≠ k.payloadLength then s.finish q replyLength
        else (body s q.payload).1.finish q (body s q.payload).2
      else s
    else s

/-- Every payload belongs to the row. -/
def anyForm (_ : List Byte) : Bool := true

/-! ### Blocks, freeing and discarding (R60, R61, R73, R76) -/

/-- Blocks go back to the free pool (R78). -/
def State.returnBlocks (s : State) (chain : List Nat) : State :=
  { s with memory := { s.memory with freePool := s.memory.freePool ++ chain } }

/-- A record number leaves a drain's queue; the other entries keep their order (R60). -/
def Drain.drop (d : Drain) (slot : Nat) : Drain := { d with queue := d.queue.filter (fun n => n ≠ slot) }

/-- Freeing a capture (R60): it leaves its list and its drain queue, its blocks and its record return to their pools. -/
def State.freeCapture (s : State) (c : Capture) : State :=
  { s.returnBlocks c.chain with
    captures := s.captures.filter (fun x => x.slot ≠ c.slot)
    drainA := s.drainA.drop c.slot
    drainB := s.drainB.drop c.slot }

/-- A discard (R61): the capture is freed and charged as a loss with reason DISCARDED. -/
def State.discard (s : State) (c : Capture) : State := (s.freeCapture c).chargeLoss c.region .discarded

/-- A grant (R73): one block leaves the free pool and joins the end of the capture's chain. -/
def State.grantBlock (s : State) (slot : Nat) : State :=
  match s.memory.freePool with
  | [] => s
  | b :: rest =>
    ({ s with memory := { s.memory with freePool := rest } } : State).updateCapture slot
      (fun c => { c with chain := c.chain ++ [b] })

/-- A block request of region `r` for its capture `slot` (R73, R76): it is judged, and after each refusal the next candidate
is discarded and it is judged again. The answer says whether a block was granted. -/
def State.requestBlock (r : RegionId) (slot : Nat) : List Capture → State → State × Bool
  | [], s => if s.grantable r then (s.grantBlock slot, true) else (s, false)
  | c :: rest, s =>
    if s.grantable r then (s.grantBlock slot, true) else State.requestBlock r slot rest (s.discard c)

/-- The captures that the policy of region `r` gives up when a block request is refused (R75, R76). -/
def State.discardable (s : State) (r : RegionId) : List Capture :=
  match (s.entry r).definition with
  | some d => if d.policy = .keepNew then s.candidates r else []
  | none => []

/-! ### Bursts and promotion (R107, R110, R111, R115) -/

/-- The drain evaluates R110, with DxRQ low or its burst at an end: if the condition holds, DxRQ is high with a new burst,
and the stall timer starts if DxRQ rises; else DxRQ is low and the timer stopped (R110, R111, R120). -/
def State.evaluateBurst (s : State) (d : DrainId) : State :=
  let x := s.drain d
  match s.head d, x.position with
  | some c, some p =>
    if x.hasHead && c.burstReady p x.grain then
      s.setDrain d { x with
        rq := .high
        burst := min x.grain (c.available p)
        timer := if x.rq = .high then x.timer else if x.timeout = 0 then .stopped else .running }
    else s.setDrain d { x with rq := .low, burst := 0, timer := .stopped }
  | _, _ => s.setDrain d { x with rq := .low, burst := 0, timer := .stopped }

/-- The words available may have risen: the drain evaluates R110 if DxRQ is low (R112). -/
def State.evaluateIfLow (s : State) (d : DrainId) : State :=
  if (s.drain d).rq = .low then s.evaluateBurst d else s

/-- A drain without an ACTIVE head, in state `st` (R103): DxRQ low, no burst, timer stopped, no head position. -/
def Drain.atRest (x : Drain) (st : DrainState) : Drain :=
  { x with state := st, timer := .stopped, burst := 0, position := none, wordsTaken := 0, rq := .low }

/-- Promotion (R107): the head becomes ACTIVE, the drain STREAMING at header word 0, and DxRQ is evaluated. -/
def State.promote (s : State) (d : DrainId) : State :=
  match (s.drain d).queue with
  | [] => s
  | slot :: _ =>
    ((s.updateCapture slot (fun c => { c with delivery := .active })).setDrain d
      { s.drain d with state := .streaming, position := some (.header 0), wordsTaken := 0 }).evaluateBurst d

/-- A drain capture joins the end of its drain's queue at its first byte; on an IDLE drain it is promoted (R54, R107). -/
def State.joinQueue (s : State) (d : DrainId) (slot : Nat) : State :=
  let joined := s.setDrain d { s.drain d with queue := (s.drain d).queue ++ [slot] }
  if (s.drain d).state = .idle then joined.promote d else joined

/-- The drain cuts the burst of an abandoned head and goes to trailer word 0 (R115). -/
def State.cutToTrailer (s : State) (d : DrainId) : State :=
  if (s.drain d).hasHead then
    (s.setDrain d { s.drain d with burst := 0, position := some (.trailer 0) }).evaluateBurst d
  else s

/-- A drain ends its head without a trailer, by abort or stall (R59, R119, R121): the head leaves the queue and is freed, a
loss is charged unless it was ABANDONED, and the drain is at rest in state `st`. -/
def State.endHead (s : State) (d : DrainId) (reason : LossReason) (st : DrainState) : State :=
  match s.head d with
  | none => s.setDrain d ((s.drain d).atRest st)
  | some c =>
    let freed := s.freeCapture c
    let charged := if c.fill = .abandoned then freed else freed.chargeLoss c.region reason
    charged.setDrain d ((charged.drain d).atRest st)

/-! ### Abandonment (R57, R58) -/

/-- Abandonment of the FILLING capture `c` (R57): its blocks return, the loss is charged, and it is freed if WAITING, or left
ABANDONED at the head of its drain, which goes to the trailer, if ACTIVE. -/
def State.abandon (s : State) (c : Capture) (reason : LossReason) : State :=
  let emptied := (s.returnBlocks c.chain).updateCapture c.slot (fun x => { x with chain := [] })
  let charged := emptied.chargeLoss c.region reason
  match c.delivery with
  | .waiting => charged.freeCapture { c with chain := [] }
  | .active =>
    let marked := charged.updateCapture c.slot (fun x => { x with fill := .abandoned, abandonReason := some reason })
    match c.route with
    | .drain d => marked.cutToTrailer d
    | .link => marked

/-- The open capture of region `r`, if any, is abandoned. -/
def State.abandonOpen (s : State) (reason : LossReason) (r : RegionId) : State :=
  match s.openCapture r with
  | none => s
  | some c => s.abandon c reason

/-- Every FILLING capture is abandoned, one at a time in ascending region id (R58). -/
def State.abandonAll (s : State) (reason : LossReason) : State :=
  allRegions.foldl (fun t r => t.abandonOpen reason r) s

/-! ### Commit (R13, R18) -/

/-- The sum of the reserves of the staged DEFINED entries of the ids listed. -/
def reserveSum (staged : PerRegion (Option RegionDef)) (ids : List RegionId) : Nat :=
  (ids.map (fun r => match staged[r] with | some d => d.reserve | none => 0)).sum

/-- Validation of the staged copy against W, H and p (R13): the first failure in ascending id, and for each id in the order
OUTSIDE, TOO_LARGE, RESERVES. -/
def validateStaged (staged : PerRegion (Option RegionDef)) (w h bpp : Nat) : Option (RegionId × FitCause) :=
  allRegions.findSome? (fun r =>
    match staged[r] with
    | none => none
    | some d =>
      if d.isOutside w h then some (r, .outside)
      else if d.isTooLarge bpp then some (r, .tooLarge)
      else if Config.blocks < reserveSum staged (allRegions.filter (fun x => x ≤ r)) then some (r, .reserves)
      else none)

/-- The active entry of an id after an apply (R18). -/
def appliedEntry (staged : Option RegionDef) (old : ActiveEntry) : ActiveEntry :=
  match staged with
  | some d =>
    { definition := some d, run := .armed, phase := 0,
      remaining := match d.mode with | .count n => n | .continuous => 0
      completed := 0, nextSeq := old.nextSeq, lost := 0 }
  | none => { definition := none, run := .unused, phase := 0, remaining := 0, completed := 0, nextSeq := old.nextSeq, lost := 0 }

/-- The apply (R18): every active entry is replaced from the staged copy, commit-pending is cleared, and APPLIED is raised
with the number of the last frame start taken (R16, R17). -/
def State.applyCommit (s : State) : State :=
  ({ s with table :=
      { s.table with
        active := Vector.ofFn (fun r : RegionId => appliedEntry s.table.staged[r] s.table.active[r])
        commitPending := false } } : State).raise (.applied s.framer.frameNumber)

/-- A pending commit is applied (R16, R39). -/
def State.applyPending (s : State) : State := if s.table.commitPending then s.applyCommit else s

/-! ### Framer states (R32, R39) -/

/-- Entry into STOPPED (R39): stop-pending is cleared, INPUT is raised with event STOPPED, and a pending commit is applied. No capture is
open then (R43), so a pixel in hand has no region left to reach. -/
def State.enterStopped (s : State) : State :=
  ((({ s with
    framer := { s.framer with state := .stopped, stopPending := false }
    inHand := none } : State).raiseInput .stopped)).applyPending

/-- Entry into SKIPPING on an input error (R32): every FILLING capture is abandoned, INPUT is raised, the state changes. -/
def State.enterSkipping (s : State) (reason : LossReason) (event : InputEvent) : State :=
  let noticed := (s.abandonAll reason).raiseInput event
  { noticed with framer := { noticed.framer with state := .skipping } }

/-- The count of an error kind increases by 1, saturating (R33). -/
def State.countError (s : State) (event : InputEvent) : State :=
  let e := s.framer.errors
  let errors : ErrorCounts :=
    match event with
    | .lineLong => { e with lineLong := satInc e.lineLong }
    | .lineShort => { e with lineShort := satInc e.lineShort }
    | .frameLong => { e with frameLong := satInc e.frameLong }
    | .frameShort => { e with frameShort := satInc e.frameShort }
    | .strayLine => { e with strayLine := satInc e.strayLine }
    | .stopped => e
  { s with framer := { s.framer with errors := errors } }

/-! ### Reset of the part (R8, R24, R63, R82, R101, R126, R127) -/

/-- Every block takes its reset values and the part waits for readiness with its cause. The bytes of capture memory are not
cleared (log 7), and the commands that wait stay. -/
def State.partReset (s : State) (cause : ResetCause) : State :=
  { State.reset with
    memory := { CaptureMemory.reset with cells := s.memory.cells }
    readiness := .resetting cause
    pending := s.pending }

end Sys2Proof.Machine
end

