-- ==== Sys2Proof/Machine/DrainPorts.lean ====
section
/-! DEFINITION. The drain ports: SET_DRAIN with its three actions, TAKE, STALL_TIMER_EXPIRY (R104, R105, R111, R113, R114, R117 to R121). -/

namespace Sys2Proof.Machine

/-! ### SET_DRAIN (R117 to R119) -/

/-- The field checks of SET_DRAIN in index order (R117). -/
def setDrainChecks (p : List Byte) : List Bool :=
  [ (drainOf (byteAt p 0)).isSome,
    byteAt p 1 = 0 || byteAt p 1 = 1 || byteAt p 1 = 2,
    nat1 p 2 = 1 || nat1 p 2 = 8 || nat1 p 2 = 32 || nat1 p 2 = 128,
    nat1 p 3 ≤ Config.maxTimeout ]

/-- A SET_DRAIN payload belongs to the row of action code `a` unless its action byte is the code of another action. -/
def setDrainForm (a : Byte) (p : List Byte) : Bool :=
  !(p.length = 4 && (byteAt p 1 = 0 || byteAt p 1 = 1 || byteAt p 1 = 2)) || byteAt p 1 = a

/-- SET_DRAIN of a payload: the field checks, then the action's effect; the OK reply reports the drain state after the
request (R117). An effect that answers `none` is refused with STATE. -/
def State.setDrainWith (effect : State → DrainId → List Byte → Option State) (s : State) (p : List Byte) :
    State × List Byte :=
  match firstFailing (setDrainChecks p), drainOf (byteAt p 0) with
  | some i, _ => (s, replyValue i)
  | none, none => (s, replyValue 0)
  | none, some d =>
    match effect s d p with
    | none => (s, replyState)
    | some t => (t, replyOk [drainStateCode (t.drain d).state])

/-- ENABLE (R117): the grain and the timeout take the new values; from DISABLED or FAULT the drain becomes IDLE, or STREAMING
with the oldest entry promoted. -/
def State.enableDrain (s : State) (d : DrainId) (p : List Byte) : Option State :=
  let x : Drain := { s.drain d with grain := nat1 p 2, timeout := nat1 p 3 }
  match (s.drain d).state with
  | .disabled | .fault =>
    match x.queue with
    | [] => some (s.setDrain d { x with state := .idle })
    | _ :: _ => some ((s.setDrain d x).promote d)
  | .idle => some (s.setDrain d x)
  | .streaming | .stopping => none

/-- DISABLE (R118). -/
def State.disableDrain (s : State) (d : DrainId) (_p : List Byte) : Option State :=
  match (s.drain d).state with
  | .streaming => some (s.setDrain d { s.drain d with state := .stopping })
  | .idle | .fault => some (s.setDrain d { s.drain d with state := .disabled })
  | .stopping | .disabled => some s

/-- ABORT (R119). -/
def State.abortDrain (s : State) (d : DrainId) (_p : List Byte) : Option State :=
  match (s.drain d).state with
  | .streaming | .stopping => some (s.endHead d .drainAbort .disabled)
  | .idle | .fault => some (s.setDrain d { s.drain d with state := .disabled })
  | .disabled => some s

/-- SET_DRAIN with action ENABLE (R117). -/
def execSetDrainEnable (s : State) : Host.Outcome State Fault Refusal :=
  .next (s.serve .setDrain (setDrainForm 0x00) (State.setDrainWith State.enableDrain))

/-- SET_DRAIN with action DISABLE (R118). -/
def execSetDrainDisable (s : State) : Host.Outcome State Fault Refusal :=
  .next (s.serve .setDrain (setDrainForm 0x01) (State.setDrainWith State.disableDrain))

/-- SET_DRAIN with action ABORT (R119). -/
def execSetDrainAbort (s : State) : Host.Outcome State Fault Refusal :=
  .next (s.serve .setDrain (setDrainForm 0x02) (State.setDrainWith State.abortDrain))

/-! ### Takes (R104, R105, R111, R113, R114) -/

/-- The take of data word `k` carries the last capture byte of a block (R79, R113). -/
def Capture.endsBlock (c : Capture) (k : Nat) : Bool := (k + 1) % 256 = 0 || k + 1 = c.dataWords

/-- What the take of data word `k` does to the head's record and the pool (R113): bytes_sent counts the word's capture bytes,
and a block whose last byte is sent leaves the front of the chain. -/
def State.sendDataWord (s : State) (c : Capture) (k : Nat) : State :=
  let sent := s.updateCapture c.slot (fun x => { x with bytesSent := min (2 * (k + 1)) x.bytesExpected })
  if c.endsBlock k then
    (sent.returnBlocks (c.chain.take 1)).updateCapture c.slot (fun x => { x with chain := x.chain.drop 1 })
  else sent

/-- The drain moves on after trailer word 1 (R114, R118): the next entry is promoted, or the drain goes IDLE, or DISABLED
from STOPPING. -/
def State.moveOn (s : State) (d : DrainId) : State :=
  match (s.drain d).state with
  | .stopping => s.setDrain d ((s.drain d).atRest .disabled)
  | _ =>
    match (s.drain d).queue with
    | [] => s.setDrain d ((s.drain d).atRest .idle)
    | _ :: _ => s.promote d

/-- The head position, the burst and the stall timer after an accepted take of a word before trailer word 1 (R104, R120). -/
def Drain.advance (x : Drain) (c : Capture) (p : Position) : Drain :=
  { x with
    position := c.nextPosition p
    burst := x.burst - 1
    timer := if x.timeout = 0 then .stopped else .running
    wordsTaken := match p with | .data _ => x.wordsTaken + 1 | _ => x.wordsTaken }

/-- The stall timer restarts at a take that accepts a word (R120). -/
def Drain.restartTimer (x : Drain) : Drain :=
  { x with burst := x.burst - 1, timer := if x.timeout = 0 then .stopped else .running }

/-- An accepted take of the word at position `p` of the head `c` (R104). When the burst count reaches 0 the drain evaluates
the burst condition afresh (R111). -/
def State.acceptTake (s : State) (d : DrainId) (c : Capture) (p : Position) : State :=
  match p with
  | .trailer 1 => ((s.setDrain d (s.drain d).restartTimer).freeCapture c).moveOn d
  | _ =>
    let sent := match p with | .data k => s.sendDataWord c k | _ => s
    let moved := sent.setDrain d ((sent.drain d).advance c p)
    if (moved.drain d).burst = 0 then moved.evaluateBurst d else moved

/-- A stray take (R105). -/
def State.strayTake (s : State) (d : DrainId) : State :=
  s.setDrain d { s.drain d with stray := satInc (s.drain d).stray }

/-- TAKE (R104, R105): with DxRQ high the presented word is accepted; with DxRQ low the take is stray. -/
def execTake (d : DrainId) (s : State) : Host.Outcome State Fault Refusal :=
  match (s.drain d).rq with
  | .low => .next (s.strayTake d)
  | .high =>
    match s.head d, (s.drain d).position with
    | some c, some p => .next (s.acceptTake d c p)
    | _, _ => .next s

/-- STALL_TIMER_EXPIRY (R121): a running timer's expiry puts a STREAMING or STOPPING drain in FAULT; the loss comes before
the DRAIN notice. -/
def execStallTimerExpiry (d : DrainId) (s : State) : Host.Outcome State Fault Refusal :=
  if (s.drain d).timer = .running && (s.drain d).hasHead then
    .next ((s.endHead d .drainStall .fault).raise (.drain d))
  else .next s

end Sys2Proof.Machine
end

