-- ==== Sys2Proof/Machine/InputControl.lean ====
section
/-! DEFINITION. The requests that control the input: SET_INPUT, START_INPUT, STOP_INPUT in its two forms (R35 to R38). -/

namespace Sys2Proof.Machine

/-- The field checks of SET_INPUT in index order (R35). -/
def setInputChecks (p : List Byte) : List Bool :=
  [ 16 ≤ nat2 p 0 && nat2 p 0 ≤ 4096, 1 ≤ nat2 p 2 && nat2 p 2 ≤ 4096, (depthOf (byteAt p 4)).isSome ]

/-- The fit of the active entries that are not UNUSED in a new geometry, in ascending id: OUTSIDE, then TOO_LARGE (R35). -/
def State.activeMisfit (s : State) (w h bpp : Nat) : Option (RegionId × FitCause) :=
  allRegions.findSome? (fun r =>
    match (s.entry r).definition with
    | none => none
    | some d =>
      if (s.entry r).run = .unused then none
      else if d.isOutside w h then some (r, .outside)
      else if d.isTooLarge bpp then some (r, .tooLarge)
      else none)

/-- SET_INPUT of a payload (R35): the state, the fields, the fit; then the geometry takes the new values. -/
def State.setInput (s : State) (p : List Byte) : State × List Byte :=
  if s.framer.state ≠ .stopped then (s, replyState)
  else
    match firstFailing (setInputChecks p) with
    | some i => (s, replyValue i)
    | none =>
      let depth := (depthOf (byteAt p 4)).getD .bits8
      match s.activeMisfit (nat2 p 0) (nat2 p 2) depth.bpp with
      | some (r, cause) => (s, replyFit r cause)
      | none =>
        ({ s with framer := { s.framer with width := nat2 p 0, height := nat2 p 2, depth := depth } }, replyOk [])

/-- SET_INPUT (R35). -/
def execSetInput (s : State) : Host.Outcome State Fault Refusal :=
  .next (s.serve .setInput anyForm State.setInput)

/-- START_INPUT of a payload (R36). -/
def State.startInput (s : State) (_p : List Byte) : State × List Byte :=
  if s.framer.state = .stopped then
    ({ s with framer := { s.framer with state := .waiting } }, replyOk [])
  else (s, replyState)

/-- START_INPUT (R36). -/
def execStartInput (s : State) : Host.Outcome State Fault Refusal :=
  .next (s.serve .startInput anyForm State.startInput)

/-- The STOP_INPUT reply: framer state and stop-pending after the request (R37, R38, R162). -/
def State.stopReply (s : State) : State × List Byte :=
  (s, replyOk (framerCode s.framer.state :: putFlag s.framer.stopPending))

/-- STOP_INPUT(NOW) (R37). -/
def State.stopNow (s : State) : State :=
  match s.framer.state with
  | .stopped => s
  | .waiting | .skipping => s.enterStopped
  | .inFrame => (s.abandonAll .inputStopped).enterStopped

/-- STOP_INPUT(FRAME_END) (R38). -/
def State.stopAtFrameEnd (s : State) : State :=
  match s.framer.state with
  | .stopped => s
  | .waiting => s.enterStopped
  | .inFrame | .skipping => { s with framer := { s.framer with stopPending := true } }

/-- A STOP_INPUT payload belongs to the row of NOW unless it is that of FRAME_END. -/
def stopNowForm (p : List Byte) : Bool := p ≠ [0x01]

/-- A STOP_INPUT payload belongs to the row of FRAME_END unless it is that of NOW. -/
def stopFrameEndForm (p : List Byte) : Bool := p ≠ [0x00]

/-- STOP_INPUT in the form NOW (R37); any other when value is refused (R38). -/
def State.stopInputNow (s : State) (p : List Byte) : State × List Byte :=
  if byteAt p 0 = 0x00 then s.stopNow.stopReply else (s, replyValue 0)

/-- STOP_INPUT with when = NOW (R37). -/
def execStopInputNow (s : State) : Host.Outcome State Fault Refusal :=
  .next (s.serve .stopInput stopNowForm State.stopInputNow)

/-- STOP_INPUT in the form FRAME_END (R38); any other when value is refused. -/
def State.stopInputFrameEnd (s : State) (p : List Byte) : State × List Byte :=
  if byteAt p 0 = 0x01 then s.stopAtFrameEnd.stopReply else (s, replyValue 0)

/-- STOP_INPUT with when = FRAME_END (R38). -/
def execStopInputFrameEnd (s : State) : Host.Outcome State Fault Refusal :=
  .next (s.serve .stopInput stopFrameEndForm State.stopInputFrameEnd)

end Sys2Proof.Machine
end

