-- ==== Sys2Proof/Machine/LinkController.lean ====
section
/-! DEFINITION. The Link Controller's own steps: the receiver and the judging of a frame (R128 to R132), UNKNOWN_REQUEST and REPLAY (R134, R136), RESET (R140), the end of a frame on TXD (R139), the link break (R143). -/

namespace Sys2Proof.Machine

/-- The Link Controller becomes `l`. -/
def State.setLink (s : State) (l : Link) : State := { s with link := l }

/-! ### The receiver (R128, R129, R131) -/

/-- The receiver takes bytes: the part is ready (R145) and RXD has been sampled high since its last low run (R128, R142). -/
def State.takesBytes (s : State) : Bool := s.readiness = .ready && s.link.rxd = .high

/-- The partial frame is discarded and counted, and the receiver returns to HUNT (R128, R129, R131). -/
def Link.discardPartial (l : Link) : Link :=
  { l with receiver := .hunt, receiveDiscards := satInc l.receiveDiscards }

/-- A LEN byte the receiver keeps (R129): 2..250. -/
def lenAccepted (len : Byte) : Bool := 2 ≤ len.toNat && len.toNat ≤ 250

/-- A KIND of a reply or notice (R130): 40h..47h or 80h..FFh. -/
def isReplyOrNoticeKind (kind : Byte) : Bool :=
  (0x40 ≤ kind.toNat && kind.toNat ≤ 0x47) || 0x80 ≤ kind.toNat

/-- The judging of a frame whose second CRC byte has been taken (R130, R132): the CRC over LEN and the body, the KIND, the
TAG, then the request queue. While a reset is pending a good request frame is discarded without a count (R141). -/
def Link.judge (l : Link) (len : Byte) (body : List Byte) (received : Half) : Link :=
  let idle : Link := { l with receiver := .hunt }
  let q : Request := { kind := byteAt body 0, tag := byteAt body 1, payload := body.drop 2 }
  if crc (len :: body) ≠ received then l.discardPartial
  else if isReplyOrNoticeKind q.kind then l.discardPartial
  else if q.tag = 0 then l.discardPartial
  else if l.resetPending then idle
  else if Config.requestSlots ≤ l.requests.length then
    ({ idle with overruns := satInc l.overruns } : Link).raise (.overrun 1)
  else { idle with requests := l.requests ++ [q] }

/-- A good byte taken in the receiver's state (R129). -/
def Link.takeByte (l : Link) (b : Byte) : Link :=
  match l.receiver with
  | .hunt => if b = 0xC5 then { l with receiver := .length } else l
  | .length => if lenAccepted b then { l with receiver := .body b [] } else l.discardPartial
  | .body len taken =>
    if taken.length + 1 < len.toNat then { l with receiver := .body len (taken ++ [b]) }
    else { l with receiver := .crc len (taken ++ [b]) none }
  | .crc len taken none => { l with receiver := .crc len taken (some b) }
  | .crc len taken (some low) => l.judge len taken (b ++ low)

/-- FRAME_BYTE_TAKEN (R129). -/
def execFrameByteTaken (byte : Byte) (s : State) : Host.Outcome State Fault Refusal :=
  if s.takesBytes then .next (s.setLink (s.link.takeByte byte)) else .next s

/-- LEN_REFUSED (R129): a byte outside 2..250 taken in LENGTH discards the partial frame and is counted. -/
def execLenRefused (len : Byte) (s : State) : Host.Outcome State Fault Refusal :=
  if s.takesBytes && s.link.receiver = .length && !(lenAccepted len) then .next (s.setLink s.link.discardPartial)
  else .next s

/-- REQUEST_FRAME (R130): the second CRC byte of a frame is taken, and the frame is judged. -/
def execRequestFrame (crcHigh : Byte) (s : State) : Host.Outcome State Fault Refusal :=
  match s.link.receiver with
  | .crc len taken (some low) =>
    if s.takesBytes then .next (s.setLink (s.link.judge len taken (crcHigh ++ low))) else .next s
  | .hunt | .length | .body _ _ | .crc _ _ none => .next s

/-- FRAMING_ERROR (R128): a stop bit sampled low. In LENGTH, BODY or CRC the partial frame is discarded and counted; no byte
is looked for until RXD has been sampled high. -/
def execFramingError (s : State) : Host.Outcome State Fault Refusal :=
  if s.takesBytes then
    match s.link.receiver with
    | .hunt => .next (s.setLink { s.link with rxd := .low })
    | .length | .body _ _ | .crc _ _ _ => .next (s.setLink { s.link.discardPartial with rxd := .low })
  else .next s

/-- GAP_TIMER_EXPIRY (R131). -/
def execGapTimerExpiry (s : State) : Host.Outcome State Fault Refusal :=
  if s.link.gapTimerRunning then .next (s.setLink s.link.discardPartial) else .next s

/-- RXD_RETURNS_HIGH (R128, R142). Before readiness RXD is ignored (R145). -/
def execRxdReturnsHigh (s : State) : Host.Outcome State Fault Refusal :=
  if s.readiness = .ready then .next (s.setLink { s.link with rxd := .high }) else .next s

/-! ### Requests that no other block owns (R134, R136, R140) -/

/-- UNKNOWN_REQUEST (R134): the head's KIND is no request code. -/
def State.serveUnknown (s : State) : State :=
  match s.link.requests with
  | [] => s
  | q :: _ =>
    if isRequestCode q.kind then s
    else if s.link.replies.length < Config.replySlots then
      if s.link.matchesStored q then s.replayHead else s.finish q replyUnknown
    else s

/-- UNKNOWN_REQUEST (R134). -/
def execUnknownRequest (s : State) : Host.Outcome State Fault Refusal := .next s.serveUnknown

/-- REPLAY (R136): the head request has the tag and kind of the stored record, and a reply slot is free (R133). -/
def State.serveReplay (s : State) : State :=
  match s.link.requests with
  | [] => s
  | q :: _ =>
    if s.link.matchesStored q && s.link.replies.length < Config.replySlots then s.replayHead else s

/-- REPLAY (R136). -/
def execReplay (s : State) : Host.Outcome State Fault Refusal := .next s.serveReplay

/-- The execution of an accepted RESET (R140): its OK reply is stored and entered, every other request is removed, the notice
set is emptied and reset-pending is set. -/
def State.acceptReset (s : State) (q : Request) : State :=
  let replied := s.finish q (replyOk [])
  replied.setLink { replied.link with requests := [], notices := [], resetPending := true }

/-- RESET (R140): refused with LENGTH if it has a payload. -/
def State.serveReset (s : State) : State :=
  match s.link.requests with
  | [] => s
  | q :: _ =>
    if q.kind = ReqKind.reset.code then
      if s.link.replies.length < Config.replySlots then
        if s.link.matchesStored q then s.replayHead
        else if q.payload.length ≠ ReqKind.reset.payloadLength then s.finish q replyLength
        else s.acceptReset q
      else s
    else s

/-- RESET (R140). -/
def execReset (s : State) : Host.Outcome State Fault Refusal := .next s.serveReset

/-! ### The transmitter (R137 to R141) -/

/-- The reply is the OK reply of a RESET (R140). -/
def isResetReply (r : Reply) : Bool := r.kind = ReqKind.reset.code + 0x80 && r.payload = replyOk []

/-- The end of a reply frame: it leaves the reply queue, the transmitter is IDLE and the arbiter chooses again (R139). -/
def Link.replySent (l : Link) : Link :=
  ({ l with replies := l.replies.tail, transmitter := .idle } : Link).arbitrate

/-- The end of a notice frame (R139). -/
def Link.noticeSent (l : Link) : Link := ({ l with transmitter := .idle } : Link).arbitrate

/-- FRAME_SENT (R139, R140): with reset-pending set, the end of the RESET reply resets the part with cause REQUEST. -/
def execFrameSent (s : State) : Host.Outcome State Fault Refusal :=
  match s.link.transmitter with
  | .idle => .next s
  | .sendingNotice _ => .next (s.setLink s.link.noticeSent)
  | .sendingReply =>
    if s.link.resetPending && s.link.replies.head?.any isResetReply then .next (s.partReset .request)
    else .next (s.setLink s.link.replySent)

/-! ### Link break (R100, R142, R143) -/

/-- What a link break leaves of the Link Controller (R127, R143). -/
def Link.afterBreak (l : Link) : Link :=
  { l with
    receiver := .hunt, rxd := .broken, requests := [], replies := [], lastReply := none, notices := [],
    transmitter := .idle, repliesInRow := 0, resetPending := false }

/-- A fetched capture returns to COMPLETE/WAITING (R100). -/
def Capture.returned (c : Capture) : Capture :=
  if c.route = .link && c.delivery = .active then { c with delivery := .waiting } else c

/-- LINK_BREAK (R143): RXD has been low for 1 ms in a run that has made no break yet (R142). With reset-pending set the part
is reset at once with cause REQUEST (R141). -/
def execLinkBreak (s : State) : Host.Outcome State Fault Refusal :=
  if s.readiness = .ready && s.link.rxd ≠ .broken then
    if s.link.resetPending then .next (s.partReset .request)
    else .next { s with link := s.link.afterBreak, captures := s.captures.map Capture.returned }
  else .next s

/-! ### Resets and readiness (R40, R145, R153) -/

/-- PIN_RESET (R40): every block takes its reset values. -/
def execPinReset (s : State) : Host.Outcome State Fault Refusal := .next (s.partReset .pin)

/-- The Link Controller at readiness (R145): the values of R127, the rate from BAUD[1:0], STARTED alone in the notice set, and
the arbiter's choice (R153). -/
def Link.atReadiness (baud : BitVec 2) (rxd : Level) (cause : ResetCause) : Link :=
  ({ Link.reset with
    rate := baud
    rxd := match rxd with | .high => .high | .low => .low
    notices := [.started cause] } : Link).arbitrate

/-- PART_READY (R145): readiness after a reset. A part that is ready already is left as it is. -/
def execPartReady (baud : BitVec 2) (rxd : Level) (s : State) : Host.Outcome State Fault Refusal :=
  match s.readiness with
  | .ready => .next s
  | .resetting cause =>
    .next { s with link := Link.atReadiness baud rxd cause, readiness := .ready }

end Sys2Proof.Machine
end

