-- ==== Sys2Proof/Machine/LinkDelivery.lean ====
section
/-! DEFINITION. The requests of Link Delivery: FETCH, READ, RELEASE, FLUSH (R86 to R95). -/

namespace Sys2Proof.Machine

/-- The OK items of a FETCH: the capture's description and the number of other captures that wait (R90, R162). -/
def fetchItems (c : Capture) (waiting : Nat) : List Byte :=
  put1 c.region.val ++ put2 c.seq.toNat ++ put4 c.frame.toNat ++ put2 c.outW ++ put2 c.outH ++ put1 c.bpp ++
  putLabel c.label ++ put4 c.bytesExpected ++ put1 waiting

/-- The waiting count of a FETCH reply (R90): the other link captures of the region that are COMPLETE/WAITING. -/
def State.waitingCount (s : State) (r : RegionId) (c : Capture) : Nat :=
  ((s.fetchable r).filter (fun x => x.slot ≠ c.slot)).length

/-- FETCH of a payload (R87 to R90). Its VALUE reply names field 0, as R87 and R162 say against R90 (DESIGN CHOICE, log 22). -/
def State.fetch (s : State) (p : List Byte) : State × List Byte :=
  match regionOf (nat1 p 0) with
  | none => (s, replyValue 0)
  | some r =>
    if !s.linkServed r then (s, replyRoute)
    else
      match s.fetched r with
      | some c => (s, replyOk (fetchItems c (s.waitingCount r c)))
      | none =>
        match s.fetchable r with
        | [] => (s, replyEmpty)
        | c :: _ =>
          (s.updateCapture c.slot (fun x => { x with delivery := .active }),
            replyOk (fetchItems c (s.waitingCount r c)))

/-- FETCH (R88). -/
def execFetch (s : State) : Host.Outcome State Fault Refusal :=
  .next (s.serve .fetch anyForm State.fetch)

/-- The fetched capture of region `r` if its seq is `seq` (R91 to R93). -/
def State.fetchedWithSeq (s : State) (r : RegionId) (seq : Nat) : Option Capture :=
  (s.fetched r).filter (fun c => c.seq.toNat = seq)

/-- The MISMATCH reply of region `r` (R91, R93). -/
def State.mismatch (s : State) (r : RegionId) : List Byte := replyMismatch ((s.fetched r).map Capture.seq)

/-- READ of a payload (R87, R91). -/
def State.readCapture (s : State) (p : List Byte) : State × List Byte :=
  match regionOf (nat1 p 0) with
  | none => (s, replyValue 0)
  | some r =>
    let offset := nat4 p 3
    let length := nat1 p 7
    if length < 1 || Config.maxRead < length then (s, replyValue 3)
    else if !s.linkServed r then (s, replyRoute)
    else
      match s.fetchedWithSeq r (nat2 p 1) with
      | none => (s, s.mismatch r)
      | some c =>
        if c.bytesExpected < offset + length then (s, replyRange c.bytesExpected)
        else (s, replyOk (s.captureBytes c offset length))

/-- READ (R91). -/
def execRead (s : State) : Host.Outcome State Fault Refusal :=
  .next (s.serve .read anyForm State.readCapture)

/-- RELEASE of a payload (R87, R93). -/
def State.release (s : State) (p : List Byte) : State × List Byte :=
  match regionOf (nat1 p 0) with
  | none => (s, replyValue 0)
  | some r =>
    if !s.linkServed r then (s, replyRoute)
    else
      match s.fetchedWithSeq r (nat2 p 1) with
      | none => (s, s.mismatch r)
      | some c => (s.freeCapture c, replyOk [])

/-- RELEASE (R93). -/
def execRelease (s : State) : Host.Outcome State Fault Refusal :=
  .next (s.serve .release anyForm State.release)

/-- FLUSH of a payload (R94, R95): every COMPLETE/WAITING capture of the region is discarded, oldest first. -/
def State.flush (s : State) (p : List Byte) : State × List Byte :=
  match regionOf (nat1 p 0) with
  | none => (s, replyValue 0)
  | some r => ((s.candidates r).foldl State.discard s, replyOk (put1 (s.candidates r).length))

/-- FLUSH (R94). -/
def execFlush (s : State) : Host.Outcome State Fault Refusal :=
  .next (s.serve .flush anyForm State.flush)

end Sys2Proof.Machine
end

