-- ==== Sys2Proof/Machine/Extraction.lean ====
section
/-! DEFINITION. What the Extractor and the Directory do at a frame start, at a pixel and at a row end: due evaluation, the depth step and the open, the writing of a pixel, completion. -/

namespace Sys2Proof.Machine

/-! ### Frame start: due evaluation and opens (R44 to R50) -/

/-- KEEP_NEW at depth (R48): the oldest COMPLETE/WAITING captures are discarded until fewer than `depth` COMPLETE captures
remain, or no candidate is left. -/
def State.makeRoom (r : RegionId) (depth : Nat) : List Capture → State → State
  | [], s => s
  | c :: rest, s => if s.completeCount r < depth then s else State.makeRoom r depth rest (s.discard c)

/-- The record of a newly opened capture (R50). -/
def openedCapture (slot : Nat) (r : RegionId) (seq : Half) (frame : Word) (d : RegionDef) (bpp : Nat) : Capture :=
  { slot := slot, region := r, seq := seq, frame := frame, outW := d.outW, outH := d.outH, bpp := bpp,
    route := d.route, label := d.label, bytesExpected := d.bytes bpp, bytesWritten := 0, fill := .filling,
    delivery := .waiting, chain := [], bytesSent := 0, abandonReason := none }

/-- The record step and the open (R49, R50): with no free record the due capture is skipped with NO_RECORD. -/
def State.openRecord (s : State) (r : RegionId) (d : RegionDef) (seq : Half) : State :=
  match s.freeRecords with
  | [] => s.chargeLoss r .noRecord
  | slot :: _ =>
    { s with captures := s.captures ++ [openedCapture slot r seq s.framer.frameNumber d s.framer.depth.bpp] }

/-- A due region (R45): the sequence number is consumed, then the depth step (R46 to R48), then the record step. -/
def State.openDue (s : State) (r : RegionId) (d : RegionDef) : State :=
  let seq := (s.entry r).nextSeq
  let numbered := s.setEntry r { s.entry r with nextSeq := seq + 1 }
  let roomy :=
    if d.policy = .keepNew then State.makeRoom r d.depth (numbered.candidates r) numbered else numbered
  if roomy.completeCount r < d.depth then roomy.openRecord r d seq else roomy.chargeLoss r .depth

/-- An ARMED region is due when its phase is 0; in COUNT mode remaining must be above 0 (R44). -/
def ActiveEntry.countsLeft (e : ActiveEntry) (d : RegionDef) : Bool :=
  match d.mode with
  | .continuous => true
  | .count _ => e.remaining ≠ 0

/-- Due evaluation of one region (R44). -/
def State.evaluateRegion (s : State) (r : RegionId) : State :=
  let e := s.entry r
  match e.definition with
  | none => s
  | some d =>
    if e.run = .armed then
      if e.phase = 0 then
        let reloaded := s.setEntry r { e with phase := d.stride - 1 }
        if e.countsLeft d then reloaded.openDue r d else reloaded
      else s.setEntry r { e with phase := e.phase - 1 }
    else s

/-- Due evaluation of all regions, ascending (R44, R45). -/
def State.evaluateDue (s : State) : State := allRegions.foldl State.evaluateRegion s

/-! ### Pixels (R51 to R54) -/

/-- The bytes of a pixel are written into the last block of the chain, at offset bytes_written of the capture (R52). -/
def writePixelCells (cells : List Host.Cell) (c : Capture) (bytes : List Byte) : List Host.Cell :=
  match c.chain.getLast? with
  | none => cells
  | some b =>
    (bytes.zipIdx (c.bytesWritten % Config.blockSize)).foldl (fun m x => Memory.write m (cellOf b x.2) x.1) cells

/-- The pixel is stored in the capture `c`, which has room in its last block: the bytes and bytes_written (R52). -/
def State.storePixel (s : State) (c : Capture) (v : Half) : State :=
  ({ s with memory := { s.memory with cells := writePixelCells s.memory.cells c (pixelBytes c.bpp v) } } : State).updateCapture
    c.slot (fun x => { x with bytesWritten := x.bytesWritten + x.bpp })

/-- What a write means to the capture's drain (R54, R112): at the first byte the capture joins the queue; a write into the
ACTIVE head that completes a data word makes the drain evaluate R110. -/
def State.tellDrainOfWrite (s : State) (c : Capture) : State :=
  match c.route with
  | .link => s
  | .drain d =>
    if c.bytesWritten = 0 then s.joinQueue d c.slot
    else if c.delivery = .active && c.bytesWritten / 2 < (c.bytesWritten + c.bpp) / 2 then s.evaluateIfLow d
    else s

/-- A pixel sampled by region `r` is written into its open capture (R52, R53): at a 512-byte boundary a block is requested
first, and a request that ends in refusal abandons the capture with NO_BLOCKS. -/
def State.writePixel (s : State) (r : RegionId) (v : Half) : State :=
  match s.openCapture r with
  | none => s
  | some c =>
    if c.bytesWritten % Config.blockSize = 0 then
      let asked := State.requestBlock r c.slot (s.discardable r) s
      if asked.2 then
        match asked.1.capture c.slot with
        | some c' => (asked.1.storePixel c' v).tellDrainOfWrite c'
        | none => asked.1
      else asked.1.abandon c .noBlocks
    else (s.storePixel c v).tellDrainOfWrite c

/-- Region `r` samples (x, y) under its active definition (R51). -/
def State.regionSamples (s : State) (r : RegionId) (x y : Nat) : Bool :=
  match (s.entry r).definition with
  | some d => d.samples x y
  | none => false

/-- The pixel (x, y) as region `r` sees it: written if the region samples it (R51). -/
def State.serveRegion (x y : Nat) (v : Half) (s : State) (r : RegionId) : State :=
  if s.regionSamples r x y then s.writePixel r v else s

/-- The pixel (x, y) calls for a block for region `r`: the region samples it and its open capture stands at a block boundary (R53). -/
def State.asksForBlock (s : State) (r : RegionId) (x y : Nat) : Bool :=
  s.regionSamples r x y &&
  match s.openCapture r with
  | some c => c.bytesWritten % Config.blockSize = 0
  | none => false

/-- The regions are served in ascending id, up to the next block request after the first (R51, R74): there the Extractor stands with the
rest of the pixel in hand, so that a free taken between the two requests counts for the second (R74, R80; DESIGN CHOICE, log 21).
`asked` says that this run has made a request. -/
def State.serveRegions (x y : Nat) (v : Half) : Bool → List RegionId → State → State
  | _, [], s => { s with inHand := none }
  | asked, r :: rest, s =>
    if asked && s.asksForBlock r x y then { s with inHand := some { x := x, y := y, value := v, rest := r :: rest } }
    else State.serveRegions x y v (asked || s.asksForBlock r x y) rest (s.serveRegion x y v r)

/-- A pixel event reaches every region that samples (x, y), in ascending id (R51). With two block requests or more, the second and what
follows it are in hand afterwards (R74, log 21). -/
def State.extractPixel (s : State) (x y : Nat) (v : Half) : State := State.serveRegions x y v false allRegions s

/-- The pixel in hand goes on: its next block request is taken, against the pool as it stands now (R74, R80, log 21). -/
def State.servePixel (s : State) : State :=
  match s.inHand with
  | none => s
  | some p => State.serveRegions p.x p.y p.value false p.rest s

/-- The pixel in hand goes on to its last region. Every event of the pixel port does so first: the pixels reach the Extractor in the
order in which they arrive (R29). -/
def State.finishPixel (s : State) : State :=
  match s.inHand with
  | none => s
  | some p => { p.rest.foldl (State.serveRegion p.x p.y p.value) s with inHand := none }

/-! ### Completion (R6, R55, R56) -/

/-- The runtime of a region after a completion (R6): completed and remaining change. -/
def ActiveEntry.completedOne (e : ActiveEntry) : ActiveEntry :=
  match e.definition with
  | some { mode := .count _, .. } => { e with completed := e.completed + 1, remaining := e.remaining - 1 }
  | _ => { e with completed := satInc e.completed }

/-- The completion brought completed to count (R4, R6, R56). -/
def ActiveEntry.reachedCount (e : ActiveEntry) : Bool :=
  match e.definition with
  | some { mode := .count n, .. } => e.run = .armed && e.completed = n
  | _ => false

/-- A COUNT-mode region whose completed has reached count goes DONE, and DONE is raised (R6). -/
def State.finishCount (s : State) (r : RegionId) : State :=
  if (s.entry r).reachedCount then (s.setEntry r { s.entry r with run := .done }).raise (.done r) else s

/-- READY for a link capture; the completion told to the drain for a drain capture, which matters to it if the capture is its
ACTIVE head (R56, R112). -/
def State.announceCompletion (s : State) (c : Capture) : State :=
  match c.route with
  | .link => s.raise (.ready c.region)
  | .drain d => if c.delivery = .active then s.evaluateIfLow d else s

/-- Completion of a capture, in the order of R56. -/
def State.complete (s : State) (c : Capture) : State :=
  let filled := s.updateCapture c.slot (fun x => { x with fill := .complete })
  let counted := filled.setEntry c.region (filled.entry c.region).completedOne
  (counted.announceCompletion c).finishCount c.region

/-- The row is the last sampled row of the open capture `c` under its region's active entry, and all its bytes are written
(R55). -/
def State.rowCompletes (s : State) (c : Capture) (row : Nat) : Bool :=
  match (s.entry c.region).definition with
  | some d => row = d.lastRow c.outH && c.bytesWritten = c.bytesExpected
  | none => false

/-- The row end as region `r` sees it (R55). -/
def State.rowEndOf (row : Nat) (s : State) (r : RegionId) : State :=
  match s.openCapture r with
  | none => s
  | some c => if s.rowCompletes c row then s.complete c else s

/-- The row end reaches every region with an open capture, in ascending id (R55). -/
def State.rowEnd (s : State) (row : Nat) : State := allRegions.foldl (State.rowEndOf row) s

end Sys2Proof.Machine
end

