-- ==== Sys2Proof/Machine/PixelPort.lean ====
section
/-! DEFINITION. The events of the pixel port (chapter 2): FRAME_START, LINE_START, PIXEL, LINE_END, FRAME_END. The previous levels of FV and LV judge each event (R23, R24); an event that the levels rule out leaves the state (log 1, log 10). Each event first finishes the pixel in hand (log 21). -/

namespace Sys2Proof.Machine

/-- The previous FV level becomes `v`. -/
def State.setFv (s : State) (v : Level) : State := { s with framer := { s.framer with fv := v } }

/-- The previous LV level becomes `v`. -/
def State.setLv (s : State) (v : Level) : State := { s with framer := { s.framer with lv := v } }

/-- The Framer's state becomes `st`. -/
def State.setFramerState (s : State) (st : FramerState) : State := { s with framer := { s.framer with state := st } }

/-- A line start as the Framer takes it (R26, R28). -/
def State.takeLineStart (s : State) : State :=
  match s.framer.state with
  | .inFrame =>
    if s.framer.linesDone < s.framer.height then { s with framer := { s.framer with pixelCount := 0 } }
    else (s.countError .frameLong).enterSkipping .frameError .frameLong
  | .waiting =>
    match s.framer.fv with
    | .low => (s.countError .strayLine).raiseInput .strayLine
    | .high => s
  | .stopped | .skipping => s

/-- A line end as the Framer takes it (R30); outside IN_FRAME it has no effect (R25, R26, R32). -/
def State.takeLineEnd (s : State) : State :=
  match s.framer.state with
  | .inFrame =>
    if s.framer.pixelCount < s.framer.width then
      (s.countError .lineShort).enterSkipping .lineError .lineShort
    else
      let closed := s.rowEnd s.framer.linesDone
      { closed with framer := { closed.framer with linesDone := closed.framer.linesDone + 1 } }
  | .stopped | .waiting | .skipping => s

/-- A pixel as the Framer takes it (R29). -/
def State.takePixel (s : State) (pd : PixelLines) : State :=
  match s.framer.state with
  | .inFrame =>
    let count := s.framer.pixelCount + 1
    let counted : State := { s with framer := { s.framer with pixelCount := count } }
    if count ≤ s.framer.width then
      counted.extractPixel (count - 1) s.framer.linesDone (pixelValue s.framer.depth pd)
    else (counted.countError .lineLong).enterSkipping .lineError .lineLong
  | .stopped | .waiting | .skipping => s

/-- A frame start in WAITING (R27): the frame number, the counts and IN_FRAME, the pending commit, the due evaluation. -/
def State.takeFrameStart (s : State) : State :=
  match s.framer.state with
  | .waiting =>
    let numbered : State :=
      { s with framer := { s.framer with
          state := .inFrame, frameNumber := s.framer.frameNumber + 1, linesDone := 0, pixelCount := 0 } }
    numbered.applyPending.evaluateDue
  | .stopped | .inFrame | .skipping => s

/-- The end of a frame: WAITING, or STOPPED if stop-pending is set (R31, R32). -/
def State.leaveFrame (s : State) : State :=
  if s.framer.stopPending then s.enterStopped else s.setFramerState .waiting

/-- A frame end as the Framer takes it (R31, R32). -/
def State.takeFrameEnd (s : State) : State :=
  match s.framer.state with
  | .inFrame =>
    if s.framer.linesDone < s.framer.height then
      (((s.countError .frameShort).abandonAll .shortFrame).raiseInput .frameShort).leaveFrame
    else s.leaveFrame
  | .skipping => s.leaveFrame
  | .stopped | .waiting => s

/-- FRAME_START (R23, R27): FV rises. If LV is high, the line start follows at once. -/
def execFrameStart (s₀ : State) : Host.Outcome State Fault Refusal :=
  let s := s₀.finishPixel
  match s.framer.fv with
  | .high => .next s
  | .low =>
    let taken := (s.setFv .high).takeFrameStart
    match s.framer.lv with
    | .high => .next taken.takeLineStart
    | .low => .next taken

/-- LINE_START (R23, R26, R28): LV rises. -/
def execLineStart (s₀ : State) : Host.Outcome State Fault Refusal :=
  let s := s₀.finishPixel
  match s.framer.lv with
  | .high => .next s
  | .low => .next (s.setLv .high).takeLineStart

/-- PIXEL (R29): LV is sampled high. In IN_FRAME a pixel comes only in a line that has started (R23). -/
def execPixel (pd : PixelLines) (s₀ : State) : Host.Outcome State Fault Refusal :=
  let s := s₀.finishPixel
  match s.framer.state, s.framer.lv with
  | .inFrame, .low => .next s
  | _, _ => .next ((s.setLv .high).takePixel pd)

/-- LINE_END (R23, R30): LV falls, or the fall of FV ends the line. -/
def execLineEnd (s₀ : State) : Host.Outcome State Fault Refusal :=
  let s := s₀.finishPixel
  match s.framer.lv with
  | .low => .next s
  | .high => .next (s.setLv .low).takeLineEnd

/-- FRAME_END (R23, R31, R32): FV falls. If LV is still high, the line end is taken first. -/
def execFrameEnd (s₀ : State) : Host.Outcome State Fault Refusal :=
  let s := s₀.finishPixel
  match s.framer.fv with
  | .low => .next s
  | .high =>
    match s.framer.lv with
    | .high => .next ((s.setLv .low).takeLineEnd.setFv .low).takeFrameEnd
    | .low => .next (s.setFv .low).takeFrameEnd

end Sys2Proof.Machine
end

