-- ==== Sys2Proof/Machine/Regions.lean ====
section
/-! DEFINITION. The requests of the Region Table: DEFINE_REGION, CLEAR_REGION, GET_REGION, COMMIT, CANCEL_COMMIT, HALT_REGION (R9 to R21). -/

namespace Sys2Proof.Machine

/-- The staged entry of region `r` becomes `d`. -/
def State.setStaged (s : State) (r : RegionId) (d : Option RegionDef) : State :=
  { s with table := { s.table with staged := s.table.staged.set r d } }

/-- The commit-pending flag becomes `b`. -/
def State.setCommitPending (s : State) (b : Bool) : State :=
  { s with table := { s.table with commitPending := b } }

/-- DEFINE_REGION of a payload (R9, R10). -/
def State.defineRegion (s : State) (p : List Byte) : State × List Byte :=
  if s.table.commitPending then (s, replyPending)
  else
    match firstFailing (defineChecks p), regionOf (nat1 p 0) with
    | none, some r => (s.setStaged r (some (readDefinition p)), replyOk [])
    | some i, _ => (s, replyValue i)
    | none, none => (s, replyValue 0)

/-- DEFINE_REGION (R9). -/
def execDefineRegion (s : State) : Host.Outcome State Fault Refusal :=
  .next (s.serve .defineRegion anyForm State.defineRegion)

/-- CLEAR_REGION of a payload (R11). -/
def State.clearRegion (s : State) (p : List Byte) : State × List Byte :=
  if s.table.commitPending then (s, replyPending)
  else
    match regionOf (nat1 p 0) with
    | none => (s, replyValue 0)
    | some r => (s.setStaged r none, replyOk [])

/-- CLEAR_REGION (R11). -/
def execClearRegion (s : State) : Host.Outcome State Fault Refusal :=
  .next (s.serve .clearRegion anyForm State.clearRegion)

/-- GET_REGION items under STAGED: the runtime reads as zero (R12, R162). -/
def State.stagedItems (s : State) (r : RegionId) : List Byte :=
  put1 r.val ++ [0x00] ++ putFlag s.table.staged[r].isSome ++ putFlag s.table.commitPending ++
  putEntry s.table.staged[r] ++ put1 0 ++ put2 0 ++ put2 0 ++ put2 0 ++ put2 0

/-- GET_REGION items under ACTIVE (R12, R162). -/
def State.activeItems (s : State) (r : RegionId) : List Byte :=
  put1 r.val ++ [0x01] ++ [runCode (s.entry r).run] ++ putFlag s.table.commitPending ++
  putEntry (s.entry r).definition ++ put1 (s.entry r).phase ++ put2 (s.entry r).remaining.toNat ++
  put2 (s.entry r).completed.toNat ++ put2 (s.entry r).nextSeq.toNat ++ put2 (s.entry r).lost.toNat

/-- GET_REGION of a payload (R12). -/
def State.getRegion (s : State) (p : List Byte) : State × List Byte :=
  match regionOf (nat1 p 0) with
  | none => (s, replyValue 0)
  | some r =>
    if byteAt p 1 = 0x00 then (s, replyOk (s.stagedItems r))
    else if byteAt p 1 = 0x01 then (s, replyOk (s.activeItems r))
    else (s, replyValue 1)

/-- GET_REGION (R12). -/
def execGetRegion (s : State) : Host.Outcome State Fault Refusal :=
  .next (s.serve .getRegion anyForm State.getRegion)

/-- COMMIT of a payload (R13, R14): refused with PENDING or FIT; applied at once in STOPPED; else pending. -/
def State.commit (s : State) (_p : List Byte) : State × List Byte :=
  if s.table.commitPending then (s, replyPending)
  else
    match validateStaged s.table.staged s.framer.width s.framer.height s.framer.depth.bpp with
    | some (r, cause) => (s, replyFit r cause)
    | none =>
      match s.framer.state with
      | .stopped => (s.applyCommit, replyOk [0x00])
      | .waiting | .inFrame | .skipping => (s.setCommitPending true, replyOk [0x01])

/-- COMMIT (R13, R14). -/
def execCommit (s : State) : Host.Outcome State Fault Refusal :=
  .next (s.serve .commit anyForm State.commit)

/-- CANCEL_COMMIT of a payload (R20). -/
def State.cancelCommit (s : State) (_p : List Byte) : State × List Byte :=
  if s.table.commitPending then (s.setCommitPending false, replyOk []) else (s, replyState)

/-- CANCEL_COMMIT (R20). -/
def execCancelCommit (s : State) : Host.Outcome State Fault Refusal :=
  .next (s.serve .cancelCommit anyForm State.cancelCommit)

/-- HALT_REGION of a payload (R21). -/
def State.haltRegion (s : State) (p : List Byte) : State × List Byte :=
  match regionOf (nat1 p 0) with
  | none => (s, replyValue 0)
  | some r =>
    if (s.entry r).run = .armed then
      ((s.setEntry r { s.entry r with run := .halted }).abandonOpen .halted r, replyOk [])
    else (s, replyState)

/-- HALT_REGION (R21). -/
def execHaltRegion (s : State) : Host.Outcome State Fault Refusal :=
  .next (s.serve .haltRegion anyForm State.haltRegion)

end Sys2Proof.Machine
end

