-- ==== Sys2Proof/Machine/Reports.lean ====
section
/-! DEFINITION. The reports and the notice mask: IDENTIFY, STATUS, REGION_STATUS, DRAIN_STATUS, POOL_STATUS (R81, R124, R155 to R157), SET_NOTICES (R151). The layouts are those of R162. -/

namespace Sys2Proof.Machine

/-- The items of IDENTIFY (R155, R162). -/
def identifyItems : List Byte :=
  put2 Config.vendorCode ++ put2 Config.partNumber ++ put1 Config.revision ++ put1 16 ++ put2 Config.blocks ++
  put2 Config.blockSize ++ put1 Config.records ++ put1 Config.maxDepth ++ put1 2 ++ put1 Config.requestSlots ++
  put1 Config.replySlots ++ put1 Config.maxRead

/-- IDENTIFY (R155). -/
def execIdentify (s : State) : Host.Outcome State Fault Refusal :=
  .next (s.serve .identify anyForm (fun t _ => (t, replyOk identifyItems)))

/-- The items of STATUS (R156, R162). -/
def State.statusItems (s : State) : List Byte :=
  [framerCode s.framer.state] ++ putFlag s.framer.stopPending ++ putFlag s.table.commitPending ++
  put4 s.framer.frameNumber.toNat ++ put2 s.framer.width ++ put2 s.framer.height ++ [depthCode s.framer.depth] ++
  put2 s.framer.errors.lineLong.toNat ++ put2 s.framer.errors.lineShort.toNat ++
  put2 s.framer.errors.frameLong.toNat ++ put2 s.framer.errors.frameShort.toNat ++
  put2 s.framer.errors.strayLine.toNat ++
  [drainStateCode s.drainA.state, drainStateCode s.drainB.state] ++
  put2 s.link.receiveDiscards.toNat ++ put2 s.link.overruns.toNat ++ put1 s.link.rate.toNat ++
  s.link.mask.toList.map settingCode ++ put1 s.link.notices.length

/-- STATUS (R156). -/
def execStatus (s : State) : Host.Outcome State Fault Refusal :=
  .next (s.serve .status anyForm (fun t _ => (t, replyOk t.statusItems)))

/-- An entry of a REGION_STATUS list: seq, route, capture state (R162). -/
def Capture.statusEntry (c : Capture) : List Byte :=
  put2 c.seq.toNat ++ [routeCode c.route, captureStateCode c.fill c.delivery]

/-- The fetched-present code and the fetched seq (R162). -/
def putFetched : Option Capture → List Byte
  | none => 0x00 :: put2 0
  | some c => 0x01 :: put2 c.seq.toNat

/-- The items of REGION_STATUS (R157, R162). -/
def State.regionStatusItems (s : State) (r : RegionId) : List Byte :=
  put1 r.val ++ [runCode (s.entry r).run] ++ put1 (s.entry r).phase ++ put2 (s.entry r).remaining.toNat ++
  put2 (s.entry r).completed.toNat ++ put2 (s.entry r).nextSeq.toNat ++ put2 (s.entry r).lost.toNat ++
  put2 (s.held r) ++ put2 (s.unmet r) ++ putFlag (s.linkServed r) ++ putFetched (s.fetched r) ++
  put1 (s.captureList r).length ++ (s.captureList r).flatMap Capture.statusEntry

/-- REGION_STATUS of a payload (R157). -/
def State.regionStatus (s : State) (p : List Byte) : State × List Byte :=
  match regionOf (nat1 p 0) with
  | none => (s, replyValue 0)
  | some r => (s, replyOk (s.regionStatusItems r))

/-- REGION_STATUS (R157). -/
def execRegionStatus (s : State) : Host.Outcome State Fault Refusal :=
  .next (s.serve .regionStatus anyForm State.regionStatus)

/-- Part code and index of a head position (R162). -/
def putPosition : Option Position → List Byte
  | none => 0x00 :: put4 0
  | some (.header i) => 0x00 :: put4 i
  | some (.data k) => 0x01 :: put4 k
  | some (.trailer j) => 0x02 :: put4 j

/-- Head present, head region, head seq, head fill, position and data words taken; all zero when no head is ACTIVE
(R124, R162). -/
def State.headItems (s : State) (d : DrainId) : List Byte :=
  match (if (s.drain d).hasHead then s.head d else none) with
  | some c =>
    [0x01] ++ put1 c.region.val ++ put2 c.seq.toNat ++ [fillCode c.fill] ++ putPosition (s.drain d).position ++
    put4 (s.drain d).wordsTaken
  | none => [0x00] ++ put1 0 ++ put2 0 ++ [fillCode .filling] ++ putPosition none ++ put4 0

/-- The items of DRAIN_STATUS (R124, R162). -/
def State.drainStatusItems (s : State) (d : DrainId) : List Byte :=
  [drainCode d, drainStateCode (s.drain d).state] ++ put1 (s.drain d).queue.length ++ s.headItems d ++
  putFlag ((s.drain d).rq = .high) ++ put1 (s.drain d).grain ++ put1 (s.drain d).timeout ++
  put2 (s.drain d).stray.toNat

/-- DRAIN_STATUS of a payload (R124). -/
def State.drainStatus (s : State) (p : List Byte) : State × List Byte :=
  match drainOf (byteAt p 0) with
  | none => (s, replyValue 0)
  | some d => (s, replyOk (s.drainStatusItems d))

/-- DRAIN_STATUS (R124). -/
def execDrainStatus (s : State) : Host.Outcome State Fault Refusal :=
  .next (s.serve .drainStatus anyForm State.drainStatus)

/-- The items of POOL_STATUS (R81, R162). -/
def State.poolStatusItems (s : State) : List Byte :=
  put2 s.freeCount ++ put1 s.freeRecords.length ++ put2 s.unmetTotal ++
  allRegions.flatMap (fun r => put2 (s.held r))

/-- POOL_STATUS (R81). -/
def execPoolStatus (s : State) : Host.Outcome State Fault Refusal :=
  .next (s.serve .poolStatus anyForm (fun t _ => (t, replyOk t.poolStatusItems)))

/-- The seven settings of a SET_NOTICES payload, field index k for the kind 41h + k (R151). -/
def readMask (p : List Byte) : Vector NoticeSetting 7 :=
  Vector.ofFn (fun k : Fin 7 => (settingOf (byteAt p k.val)).getD .enabled)

/-- The new mask in force: waiting entries of a kind now masked leave the set, the others keep their order (R151). -/
def Link.setMask (l : Link) (mask : Vector NoticeSetting 7) : Link :=
  let set : Link := { l with mask := mask }
  { set with notices := l.notices.filter (fun n => !(set.isMasked n)) }

/-- SET_NOTICES of a payload (R151). -/
def State.setNotices (s : State) (p : List Byte) : State × List Byte :=
  match firstFailing ((List.range 7).map (fun k => (settingOf (byteAt p k)).isSome)) with
  | some k => (s, replyValue k)
  | none =>
    ({ s with link := s.link.setMask (readMask p) }, replyOk ((readMask p).toList.map settingCode))

/-- SET_NOTICES (R151). -/
def execSetNotices (s : State) : Host.Outcome State Fault Refusal :=
  .next (s.serve .setNotices anyForm State.setNotices)

end Sys2Proof.Machine
end

