-- ==== Sys2Proof/Machine/Dispatch.lean ====
section
/-! DEFINITION. One arm for each command: the call of its meaning. -/

namespace Sys2Proof.Machine

def exec (i : Instr) (s : State) : Host.Outcome State Fault Refusal :=
  match i with
  | .frameStart => Sys2Proof.Machine.execFrameStart s
  | .lineStart => Sys2Proof.Machine.execLineStart s
  | .pixel pd => Sys2Proof.Machine.execPixel pd s
  | .lineEnd => Sys2Proof.Machine.execLineEnd s
  | .frameEnd => Sys2Proof.Machine.execFrameEnd s
  | .identify => Sys2Proof.Machine.execIdentify s
  | .status => Sys2Proof.Machine.execStatus s
  | .reset => Sys2Proof.Machine.execReset s
  | .setInput => Sys2Proof.Machine.execSetInput s
  | .startInput => Sys2Proof.Machine.execStartInput s
  | .stopInputNow => Sys2Proof.Machine.execStopInputNow s
  | .stopInputFrameEnd => Sys2Proof.Machine.execStopInputFrameEnd s
  | .defineRegion => Sys2Proof.Machine.execDefineRegion s
  | .clearRegion => Sys2Proof.Machine.execClearRegion s
  | .getRegion => Sys2Proof.Machine.execGetRegion s
  | .commit => Sys2Proof.Machine.execCommit s
  | .cancelCommit => Sys2Proof.Machine.execCancelCommit s
  | .haltRegion => Sys2Proof.Machine.execHaltRegion s
  | .regionStatus => Sys2Proof.Machine.execRegionStatus s
  | .fetch => Sys2Proof.Machine.execFetch s
  | .read => Sys2Proof.Machine.execRead s
  | .release => Sys2Proof.Machine.execRelease s
  | .flush => Sys2Proof.Machine.execFlush s
  | .setDrainEnable => Sys2Proof.Machine.execSetDrainEnable s
  | .setDrainDisable => Sys2Proof.Machine.execSetDrainDisable s
  | .setDrainAbort => Sys2Proof.Machine.execSetDrainAbort s
  | .drainStatus => Sys2Proof.Machine.execDrainStatus s
  | .poolStatus => Sys2Proof.Machine.execPoolStatus s
  | .setNotices => Sys2Proof.Machine.execSetNotices s
  | .unknownRequest => Sys2Proof.Machine.execUnknownRequest s
  | .replay => Sys2Proof.Machine.execReplay s
  | .requestFrame crcHigh => Sys2Proof.Machine.execRequestFrame crcHigh s
  | .framingError => Sys2Proof.Machine.execFramingError s
  | .lenRefused len => Sys2Proof.Machine.execLenRefused len s
  | .gapTimerExpiry => Sys2Proof.Machine.execGapTimerExpiry s
  | .linkBreak => Sys2Proof.Machine.execLinkBreak s
  | .frameSent => Sys2Proof.Machine.execFrameSent s
  | .pinReset => Sys2Proof.Machine.execPinReset s
  | .partReady baud rxd => Sys2Proof.Machine.execPartReady baud rxd s
  | .take d => Sys2Proof.Machine.execTake d s
  | .stallTimerExpiry d => Sys2Proof.Machine.execStallTimerExpiry d s
  | .rxdReturnsHigh => Sys2Proof.Machine.execRxdReturnsHigh s
  | .frameByteTaken byte => Sys2Proof.Machine.execFrameByteTaken byte s

end Sys2Proof.Machine
end

