-- ==== Sys2Proof/Safety.lean ====
section
/-! DEFINITION. What counts as a safe state of the part: the laws that the spec states of the pool, the Directory, the notice set, the queues of the link, the Framer and the Region Table, in the terms the statements use. -/

namespace Sys2Proof.Machine

/-- The bytes of capture memory are in canonical form. -/
abbrev State.CellsCanonical (s : State) : Prop := Memory.wf s.memory.cells

/-- The numbers of the blocks in the chains of all in-use records. -/
def State.chainBlocks (s : State) : List Nat := s.captures.flatMap Capture.chain

/-- The law of the pool (R67): every block number 0..511 lies exactly once in the free pool or in one chain. -/
abbrev State.PoolLaw (s : State) : Prop := (s.memory.freePool ++ s.chainBlocks).Perm (List.range Config.blocks)

/-- Every in-use record has a number of its own, 0..47 (R41). -/
abbrev State.RecordsDistinct (s : State) : Prop :=
  (s.captures.map Capture.slot).Nodup ∧ ∀ c ∈ s.captures, c.slot < Config.records

/-- The combinations of fill, delivery and route that a record can have (R42). -/
def Capture.legal (c : Capture) : Bool :=
  match c.fill, c.delivery, c.route with
  | .filling, .waiting, _ => true
  | .filling, .active, .drain _ => true
  | .filling, .active, .link => false
  | .complete, _, _ => true
  | .abandoned, .active, .drain _ => true
  | .abandoned, .active, .link => false
  | .abandoned, .waiting, _ => false

/-- Every entry of a drain's queue is an in-use record that was opened for that drain (R106). -/
abbrev State.QueuesRouted (s : State) : Prop :=
  (∀ n ∈ s.drainA.queue, ∃ c ∈ s.captures, c.slot = n ∧ c.route = .drain .a) ∧
  (∀ n ∈ s.drainB.queue, ∃ c ∈ s.captures, c.slot = n ∧ c.route = .drain .b)

/-- The Directory holds distinct records, each in a legal combination, and drain queues of the right routes. -/
abbrev State.DirectoryLaw (s : State) : Prop :=
  s.RecordsDistinct ∧ (∀ c ∈ s.captures, c.legal = true) ∧ s.QueuesRouted

/-- A record's bytes_written never passes bytes_expected while it fills, and COMPLETE means all are written (R41, R55). -/
abbrev State.CompleteIsWritten (s : State) : Prop :=
  ∀ c ∈ s.captures, c.fill = .complete → c.bytesWritten = c.bytesExpected

/-- The law of the notice set (R146): at most one entry for each kind and key. -/
abbrev State.NoticeSetLaw (s : State) : Prop := s.link.notices.Pairwise (fun x y => sameKey x y = false)

/-- The queues of the link stay within their sizes, and so does the replies-in-a-row count (R127). -/
abbrev State.LinkQueuesBounded (s : State) : Prop :=
  s.link.requests.length ≤ Config.requestSlots ∧ s.link.replies.length ≤ Config.replySlots ∧
  s.link.repliesInRow ≤ Config.repliesBeforeNotice

/-- The Framer's flags and geometry (R15, R24, R35): stop-pending only in IN_FRAME and SKIPPING; no commit pending in STOPPED; FV
high in a frame that has been taken; W and H in the ranges of SET_INPUT. -/
abbrev State.FramerLaw (s : State) : Prop :=
  (s.framer.stopPending = true → s.framer.state = .inFrame ∨ s.framer.state = .skipping) ∧
  (s.table.commitPending = true → s.framer.state ≠ .stopped) ∧
  (s.framer.state = .inFrame ∨ s.framer.state = .skipping → s.framer.fv = .high) ∧
  16 ≤ s.framer.width ∧ s.framer.width ≤ 4096 ∧ 1 ≤ s.framer.height ∧ s.framer.height ≤ 4096

/-- A drain that is DISABLED, IDLE or in FAULT is at rest (R103): DxRQ low, no burst, timer stopped, no head position. -/
def Drain.restful (x : Drain) : Bool :=
  x.hasHead || (x.rq = .low && x.burst = 0 && x.timer = .stopped && x.position = none)

/-- Both drains are at rest while they have no ACTIVE head, and an IDLE drain has an empty queue (R103). -/
abbrev State.DrainsAtRest (s : State) : Prop :=
  s.drainA.restful = true ∧ s.drainB.restful = true ∧
  (s.drainA.state = .idle → s.drainA.queue = []) ∧ (s.drainB.state = .idle → s.drainB.queue = [])

/-- A position of the layout of a capture on a drain (R108): 8 header words, data words, 2 trailer words. -/
def Position.inLayout : Position → Bool
  | .header i => i < Config.headerWords
  | .data _ => true
  | .trailer j => j < Config.trailerWords

/-- Drain `d` has an ACTIVE head and a head position of the layout. -/
def State.headStands (s : State) (d : DrainId) : Bool :=
  match s.head d, (s.drain d).position with
  | some c, some p => c.delivery = .active && p.inLayout
  | _, _ => false

/-- The law of drain `d` (R106, R108): its queue holds no record twice, and none before its first byte; an ACTIVE capture of its route is
its head, and it is then STREAMING or STOPPING; and in STREAMING and STOPPING it has such a head and a head position. -/
abbrev State.DrainLawOf (s : State) (d : DrainId) : Prop :=
  (s.drain d).queue.Nodup ∧
  (∀ c ∈ s.captures, c.slot ∈ (s.drain d).queue → c.bytesWritten ≠ 0) ∧
  (∀ c ∈ s.captures, c.route = .drain d → c.delivery = .active → (s.drain d).hasHead = true ∧ s.head d = some c) ∧
  ((s.drain d).hasHead = true → s.headStands d = true)

/-- The law of the drain, for both drains (R106, R108). -/
abbrev State.DrainLaw (s : State) : Prop := s.DrainLawOf .a ∧ s.DrainLawOf .b

/-- An active entry holds a definition exactly when its run state is not UNUSED (R3). -/
abbrev State.EntriesDefined (s : State) : Prop :=
  ∀ r : RegionId, (s.entry r).definition = none ↔ (s.entry r).run = .unused

/-- Every record's bytes are written by whole pixels of one or two bytes (R41, R52). -/
abbrev State.WholePixels (s : State) : Prop :=
  ∀ c ∈ s.captures, c.bpp = 1 ∨ (c.bpp = 2 ∧ c.bytesWritten % 2 = 0)

/-- The chain of a link capture holds the blocks of exactly the bytes written; no drain sends any of it (R52, R67). -/
abbrev State.LinkChainLaw (s : State) : Prop :=
  ∀ c ∈ s.captures, c.route = .link → c.bytesSent = 0 ∧ c.chain.length = ceilDiv c.bytesWritten Config.blockSize

/-! ### Terms of the statements -/

/-- The field ranges of R2 that DEFINE_REGION accepts (R10). -/
def RegionDef.inRange (d : RegionDef) : Prop :=
  d.x0 ≤ 4095 ∧ d.y0 ≤ 4095 ∧ 1 ≤ d.width ∧ d.width ≤ 4096 ∧ 1 ≤ d.height ∧ d.height ≤ 4096 ∧
  (d.colStep = 1 ∨ d.colStep = 2 ∨ d.colStep = 4 ∨ d.colStep = 8) ∧
  (d.rowStep = 1 ∨ d.rowStep = 2 ∨ d.rowStep = 4 ∨ d.rowStep = 8) ∧
  1 ≤ d.stride ∧ d.stride ≤ 64 ∧ (∀ n, d.mode = .count n → n ≠ 0) ∧ 1 ≤ d.depth ∧ d.depth ≤ 8 ∧
  d.reserve ≤ 512 ∧ 1 ≤ d.limit ∧ d.limit ≤ 512 ∧ d.reserve ≤ d.limit

/-- How many of the columns (or rows) sampled from `origin` over `size` with `step` lie below `x`. -/
def sampledBelow (origin size step x : Nat) : Nat := min (ceilDiv size step) (ceilDiv (x - origin) step)

/-- How many pixels the region samples before pixel (x, y) in raster order (R51, R52). -/
def RegionDef.sampledBefore (d : RegionDef) (x y : Nat) : Nat :=
  sampledBelow d.y0 d.height d.rowStep y * d.outW +
  (if d.y0 ≤ y && y < d.y0 + d.height && (y - d.y0) % d.rowStep = 0 then sampledBelow d.x0 d.width d.colStep x else 0)

/-- The definition lies in a W × H frame (R13). -/
abbrev RegionDef.liesIn (d : RegionDef) (w h : Nat) : Prop := d.x0 + d.width ≤ w ∧ d.y0 + d.height ≤ h

/-- Every definition of either copy is in range, the active ones lie in the geometry, and so do the staged ones while a commit is
pending (R10, R13, R15, R35). -/
abbrev State.GeometryLaw (s : State) : Prop :=
  (∀ r d, s.table.staged[(r : RegionId)] = some d → d.inRange) ∧
  (∀ r d, (s.entry r).definition = some d → d.inRange ∧ d.liesIn s.framer.width s.framer.height) ∧
  (s.table.commitPending = true → ∀ r d, s.table.staged[(r : RegionId)] = some d →
    d.liesIn s.framer.width s.framer.height)

/-- The pixel in hand is the last one counted in the present line, and the regions it has still to reach are the highest ids (R29, R51,
R74). -/
abbrev State.InHandLaw (s : State) : Prop :=
  ∀ p ∈ s.inHand, s.framer.state = .inFrame ∧ s.framer.lv = .high ∧ p.x + 1 = s.framer.pixelCount ∧
    s.framer.pixelCount ≤ s.framer.width ∧ p.y = s.framer.linesDone ∧ p.rest <:+ allRegions

/-- The column of the next pixel: within a line the pixel count, between lines 0. -/
def Framer.column (f : Framer) : Nat :=
  match f.lv with
  | .high => f.pixelCount
  | .low => 0

/-- The column of the next pixel that reaches region `r`: that of the pixel in hand, if it has still to reach the region. -/
def State.columnFor (s : State) (r : RegionId) : Nat :=
  match s.inHand with
  | some p => if r ∈ p.rest then p.x else s.framer.column
  | none => s.framer.column

/-- What a FILLING capture holds (R43, R51, R52, R55): it is the only one of its region, the Framer is IN_FRAME, and it holds as many
bytes as the pixels that its region's active definition samples and that have reached it. -/
abbrev State.RasterLaw (s : State) : Prop :=
  (∀ r : RegionId, ((s.captureList r).filter (fun c => c.fill = .filling)).length ≤ 1) ∧
  ∀ c ∈ s.captures, c.fill = .filling →
    s.framer.state = .inFrame ∧ ∃ d, (s.entry c.region).definition = some d ∧ c.outW = d.outW ∧ c.outH = d.outH ∧
      c.bpp = s.framer.depth.bpp ∧ c.bytesExpected = d.outW * d.outH * c.bpp ∧ s.framer.linesDone ≤ d.lastRow c.outH ∧
      c.bytesWritten = d.sampledBefore (s.columnFor c.region) s.framer.linesDone * c.bpp

/-- The laws under which the raster law is kept. -/
abbrev State.RasterInvariant (s : State) : Prop :=
  s.RecordsDistinct ∧ s.EntriesDefined ∧ s.FramerLaw ∧ s.GeometryLaw ∧ s.InHandLaw ∧ s.RasterLaw

/-- The request `q` of kind `k` stands at the head of the request queue with the payload length of its kind, a reply slot is
free, and `q` does not repeat the last request executed: it is executed and not refused, replayed or kept waiting (R133, R134,
R136). -/
abbrev State.ServesNext (s : State) (k : ReqKind) (q : Request) : Prop :=
  s.link.requests.head? = some q ∧ q.kind = k.code ∧ q.payload.length = k.payloadLength ∧
  s.link.replies.length < 4 ∧ ∀ stored, s.link.lastReply = some stored → stored.tag ≠ q.tag ∨ stored.kind ≠ q.kind

/-- The events of the pixel port. -/
def atPixelPort : Instr → Bool
  | .frameStart | .lineStart | .pixel _ | .lineEnd | .frameEnd => true
  | _ => false

/-- The pixel (x, y) of value `v` has been passed on from `s` to `t` as far as one step takes it: to the first regions of `regions`, in
order, with one block request at most; regions are left only where the first of them asks for a block and a request has been taken
(R51, R74). -/
def State.ServedUpTo (x y : Nat) (v : Half) (regions : List RegionId) (s t : State) : Prop :=
  let served (i : Nat) : State :=
    (regions.take i).foldl (fun u r => if u.regionSamples r x y then u.writePixel r v else u) s
  let asks (i : Nat) : Prop := ∃ r ∈ regions[i]?, (served i).regionSamples r x y = true ∧
    ∃ c ∈ (served i).openCapture r, c.bytesWritten % 512 = 0
  ∃ k, k ≤ regions.length ∧
    t = { served k with
      inHand := if k = regions.length then none else some { x := x, y := y, value := v, rest := regions.drop k } } ∧
    (∀ i j, i < j → j < k → ¬(asks i ∧ asks j)) ∧ (k < regions.length → asks k ∧ ∃ i, i < k ∧ asks i)

/-- The request kind and the payload form that a row of the table executes. -/
def requestRow : Instr → Option (ReqKind × (List Byte → Bool))
  | .identify => some (.identify, anyForm)
  | .status => some (.status, anyForm)
  | .reset => some (.reset, anyForm)
  | .setInput => some (.setInput, anyForm)
  | .startInput => some (.startInput, anyForm)
  | .stopInputNow => some (.stopInput, stopNowForm)
  | .stopInputFrameEnd => some (.stopInput, stopFrameEndForm)
  | .defineRegion => some (.defineRegion, anyForm)
  | .clearRegion => some (.clearRegion, anyForm)
  | .getRegion => some (.getRegion, anyForm)
  | .commit => some (.commit, anyForm)
  | .cancelCommit => some (.cancelCommit, anyForm)
  | .haltRegion => some (.haltRegion, anyForm)
  | .regionStatus => some (.regionStatus, anyForm)
  | .fetch => some (.fetch, anyForm)
  | .read => some (.read, anyForm)
  | .release => some (.release, anyForm)
  | .flush => some (.flush, anyForm)
  | .setDrainEnable => some (.setDrain, setDrainForm 0x00)
  | .setDrainDisable => some (.setDrain, setDrainForm 0x01)
  | .setDrainAbort => some (.setDrain, setDrainForm 0x02)
  | .drainStatus => some (.drainStatus, anyForm)
  | .poolStatus => some (.poolStatus, anyForm)
  | .setNotices => some (.setNotices, anyForm)
  | .unknownRequest | .replay | .frameStart | .lineStart | .pixel _ | .lineEnd | .frameEnd => none
  | .requestFrame _ | .framingError | .lenRefused _ | .gapTimerExpiry | .linkBreak | .frameSent => none
  | .pinReset | .partReady _ _ | .take _ | .stallTimerExpiry _ | .rxdReturnsHigh | .frameByteTaken _ => none

/-- The row executes the request `q`: the row of its kind and form, or UNKNOWN_REQUEST for a KIND that is no request code. -/
def rowServes (c : Instr) (q : Request) : Prop :=
  (∃ (k : ReqKind) (form : List Byte → Bool), requestRow c = some (k, form) ∧ q.kind = k.code ∧ form q.payload = true) ∨
  (c = .unknownRequest ∧ isRequestCode q.kind = false)

end Sys2Proof.Machine
end

