-- ==== Sys2Proof/Certificates/Slice0/Obligations.lean ====
section
/-! DEFINITION. The statements about the CS-1620 that are to be proved: what each command does, by the rule of the spec that says it, and the laws that every command keeps. -/

section
open Sys2Proof Sys2Proof.Machine

/-! ### The queue of commands and the resets -/

/-- A step takes the command at the front of the queue and runs it on the state with the queue's rest. The model's choices: on an empty
queue the pixel in hand goes on (log 21), and with none in hand the step idles (log 4). -/
def Obligations.StepRunsFrontCommand : Prop :=
  ∀ (c : Instr) (rest : List Instr) (s : State),
    step { s with pending := c :: rest } = exec c { s with pending := rest } ∧
    step { s with pending := [] } = .next ({ s with pending := [] } : State).servePixel ∧
    (s.inHand = none → step { s with pending := [] } = .next { s with pending := [] })

/-- No command stops the part: each answers a next state, and none touches the commands that wait. That a command whose event has no
place in the state answers that state is the model's choice (log 1), and so is the queue as the way in which commands come (log 5). -/
def Obligations.EveryCommandEndsInNextState : Prop :=
  ∀ (c : Instr) (s : State), ∃ t, exec c s = .next t ∧ t.pending = s.pending

/-- The values right after a pin reset that the tables of R3, R8, R24, R63, R82, R103 and R127 give. That State.reset is the moment
before readiness, with the cause remembered, no command waiting and the notice set still without STARTED, is the model's choice (log 5),
and so is the pixel in hand as a piece of state (log 21). -/
def Obligations.ResetStateHoldsTableValues : Prop :=
  State.reset.framer =
    { state := .stopped, stopPending := false, width := 640, height := 480, depth := .bits8, frameNumber := 0,
      linesDone := 0, pixelCount := 0, fv := .low, lv := .low,
      errors := { lineLong := 0, lineShort := 0, frameLong := 0, frameShort := 0, strayLine := 0 } } ∧
  (∀ r : RegionId, State.reset.table.staged[r] = none ∧
    State.reset.entry r =
      { definition := none, run := .unused, phase := 0, remaining := 0, completed := 0, nextSeq := 0, lost := 0 }) ∧
  State.reset.table.commitPending = false ∧
  State.reset.freeCount = 512 ∧ (∀ b, b ∈ State.reset.memory.freePool ↔ b < 512) ∧ State.reset.captures = [] ∧ State.reset.inHand = none ∧
  (∀ d : DrainId, State.reset.drain d =
    { state := .disabled, queue := [], grain := 32, timeout := 0, timer := .stopped, burst := 0, position := none,
      wordsTaken := 0, rq := .low, stray := 0 }) ∧
  State.reset.link.receiver = .hunt ∧ State.reset.link.requests = [] ∧ State.reset.link.replies = [] ∧
  State.reset.link.lastReply = none ∧ State.reset.link.notices = [] ∧
  State.reset.link.mask = Vector.replicate 7 .enabled ∧ State.reset.link.transmitter = .idle ∧
  State.reset.link.repliesInRow = 0 ∧ State.reset.link.resetPending = false ∧
  State.reset.link.receiveDiscards = 0 ∧ State.reset.link.overruns = 0 ∧
  State.reset.readiness = .resetting .pin ∧ State.reset.pending = []

/-- The state after reset satisfies every law that the invariants below keep. That State.reset is the moment before readiness is the
model's choice (log 5). -/
def Obligations.ResetStateSatisfiesEveryLaw : Prop :=
  State.reset.CellsCanonical ∧ State.reset.PoolLaw ∧ State.reset.DirectoryLaw ∧ State.reset.CompleteIsWritten ∧
  State.reset.WholePixels ∧ State.reset.LinkChainLaw ∧ State.reset.NoticeSetLaw ∧ State.reset.LinkQueuesBounded ∧ State.reset.FramerLaw ∧
  State.reset.DrainsAtRest ∧ State.reset.DrainLaw ∧ State.reset.EntriesDefined ∧ State.reset.RasterInvariant

/-- R40, R140, R63, R82: PIN_RESET and the end of the RESET reply put every block at its reset values, with every capture, record and
block free and no loss counted; the part then waits for readiness with its cause. A link break leaves the Capture Memory alone. The
model's choices in it: the moment before readiness (log 5), the link rate 00 and RXD low until then (log 6), the bytes of capture memory
kept (log 7), the RESET reply known by its kind 83h and payload 00h (log 19). -/
def Obligations.ResetsFreeEverythingBreakKeepsMemory : Prop :=
  (∀ s : State,
      exec .pinReset s = .next
        { State.reset with
          memory := { freePool := List.range 512, cells := s.memory.cells }
          readiness := .resetting .pin
          pending := s.pending } ∧
      (∀ r : Reply, s.link.transmitter = .sendingReply → s.link.resetPending = true → s.link.replies.head? = some r →
        r.kind = 0x83 → r.payload = [0x00] →
        exec .frameSent s = .next
          { State.reset with
            memory := { freePool := List.range 512, cells := s.memory.cells }
            readiness := .resetting .request
            pending := s.pending })) ∧
  ((∀ s t : State,
      (exec .pinReset s = .next t ∨
        (exec .frameSent s = .next t ∧ s.link.transmitter = .sendingReply ∧ s.link.resetPending = true ∧
          ∃ r, s.link.replies.head? = some r ∧ r.kind = 0x83 ∧ r.payload = [0x00])) →
      (∀ r : RegionId, t.openCapture r = none ∧ t.captureList r = [] ∧ t.held r = 0 ∧
        (t.entry r).lost = 0 ∧ (t.entry r).nextSeq = 0 ∧ (t.entry r).reserve = 0) ∧
      t.freeRecords.length = 48 ∧ (∀ d : DrainId, (t.drain d).queue = []) ∧ t.freeCount = 512 ∧
      t.link.notices = [] ∧ t.unmetTotal = 0 ∧ t.unmetTotal ≤ t.freeCount) ∧
    (∀ s t : State, s.link.resetPending = false → exec .linkBreak s = .next t →
      t.memory = s.memory ∧ t.captures.map Capture.chain = s.captures.map Capture.chain ∧
      (∀ r : RegionId, t.held r = s.held r) ∧
      (s.readiness = .ready → s.link.rxd ≠ .broken → ∀ c ∈ s.captures, c.route = .link → c.fill = .complete →
        { c with delivery := .waiting } ∈ t.candidates c.region)))

/-! ### The pixel port -/

/-- R25: in STOPPED the events of the pixel port move the followed levels and nothing else; only START_INPUT leaves STOPPED;
SET_INPUT is not refused with STATE in it, and is refused with STATE in every other state. How each event moves the followed levels is
the model's choice (log 10). A pixel in hand is finished first (PixelCountedAndHandedToRegions; log 21). -/
def Obligations.StoppedFramerFollowsLevelsOnly : Prop :=
  (∀ s : State, s.framer.state = .stopped → s.inHand = none →
    (s.framer.fv = .low → exec .frameStart s = .next { s with framer := { s.framer with fv := .high } }) ∧
    (s.framer.lv = .low → exec .lineStart s = .next { s with framer := { s.framer with lv := .high } }) ∧
    (∀ pd, exec (.pixel pd) s = .next { s with framer := { s.framer with lv := .high } }) ∧
    (s.framer.lv = .high → exec .lineEnd s = .next { s with framer := { s.framer with lv := .low } }) ∧
    (s.framer.fv = .high → exec .frameEnd s = .next { s with framer := { s.framer with fv := .low, lv := .low } })) ∧
  (∀ (c : Instr) (s t : State), s.framer.state = .stopped → exec c s = .next t → c ≠ .startInput →
    t.framer.state = .stopped) ∧
  (∀ (s : State) (q : Request), s.ServesNext .setInput q → s.framer.state ≠ .stopped →
    exec .setInput s = .next (s.finish q [0x04])) ∧
  (∀ (s : State) (q : Request), s.ServesNext .setInput q → s.framer.state = .stopped →
    ∃ t, exec .setInput s = .next t ∧ ∀ stored, t.link.lastReply = some stored → stored.reply.payload ≠ [0x04])

/-- R26: what the Framer does with each event of the pixel port in WAITING. How each event moves the followed levels is the model's
choice (log 10). A pixel in hand is finished first (PixelCountedAndHandedToRegions; log 21). -/
def Obligations.WaitingFramerCountsStrayLines : Prop :=
  ∀ s : State, s.framer.state = .waiting → s.inHand = none →
    (s.framer.fv = .low → 1 ≤ s.framer.height → ∃ t, exec .frameStart s = .next t ∧ t.framer.state = .inFrame) ∧
    (s.framer.fv = .low → s.framer.lv = .low →
      exec .lineStart s = .next
        { s with
          framer := { s.framer with
            lv := .high
            errors := { s.framer.errors with strayLine := satInc s.framer.errors.strayLine } }
          link := s.link.raise (.input .strayLine s.framer.frameNumber) }) ∧
    (s.framer.fv = .high → s.framer.lv = .low →
      exec .lineStart s = .next { s with framer := { s.framer with lv := .high } }) ∧
    (∀ pd, exec (.pixel pd) s = .next { s with framer := { s.framer with lv := .high } }) ∧
    (s.framer.lv = .high → exec .lineEnd s = .next { s with framer := { s.framer with lv := .low } }) ∧
    (s.framer.fv = .high → exec .frameEnd s = .next { s with framer := { s.framer with fv := .low, lv := .low } })

/-- R27, R16, R23: a frame start in WAITING takes the number, clears the counts, applies a pending commit, then evaluates the
regions in ascending id; with LV high the line start follows. The frame number changes at a frame start and at a reset
alone. -/
def Obligations.FrameStartNumbersAppliesEvaluates : Prop :=
  (∀ s : State, s.framer.state = .waiting → s.framer.fv = .low → s.inHand = none →
    let framer : Framer := { s.framer with
      fv := .high, state := .inFrame, frameNumber := s.framer.frameNumber + 1, linesDone := 0, pixelCount := 0 }
    let numbered : State := { s with framer := framer }
    let applied : State := if s.table.commitPending then numbered.applyCommit else numbered
    let evaluated := allRegions.foldl State.evaluateRegion applied
    evaluated.framer = framer ∧
    (s.framer.lv = .low → exec .frameStart s = .next evaluated) ∧
    (s.framer.lv = .high → 1 ≤ s.framer.height → exec .frameStart s = .next evaluated)) ∧
  (∀ (c : Instr) (s t : State), exec c s = .next t → c ≠ .frameStart → c ≠ .pinReset → c ≠ .frameSent → c ≠ .linkBreak →
    t.framer.frameNumber = s.framer.frameNumber)

/-- R44, R5, R50: how a frame start moves the phase and the next sequence number of every region, and what a record that it
opens holds. -/
def Obligations.FrameStartMovesPhaseAndSequence : Prop :=
  ∀ s t : State, s.framer.state = .waiting → s.framer.fv = .low → s.inHand = none → 1 ≤ s.framer.height →
    exec .frameStart s = .next t →
    let before (r : RegionId) : ActiveEntry :=
      if s.table.commitPending then appliedEntry s.table.staged[r] (s.entry r) else s.entry r
    let due (r : RegionId) (d : RegionDef) : Prop :=
      (before r).definition = some d ∧ (before r).run = .armed ∧ (before r).phase = 0 ∧
        (d.mode = .continuous ∨ (before r).remaining ≠ 0)
    (∀ r d, (before r).definition = some d → (before r).run = .armed →
      ((before r).phase = 0 → (t.entry r).phase = d.stride - 1) ∧
      ((before r).phase ≠ 0 → (t.entry r).phase = (before r).phase - 1)) ∧
    (∀ r, (before r).run ≠ .armed → (t.entry r).phase = (before r).phase) ∧
    (∀ r d, due r d → (t.entry r).nextSeq = (before r).nextSeq + 1) ∧
    (∀ r, (¬∃ d, due r d) → (t.entry r).nextSeq = (before r).nextSeq) ∧
    (∀ r, (t.entry r).definition = (before r).definition ∧ (t.entry r).run = (before r).run ∧
      (t.entry r).remaining = (before r).remaining ∧ (t.entry r).completed = (before r).completed) ∧
    (∀ c ∈ t.captures, c ∉ s.captures → ∃ d, due c.region d ∧
      c = { slot := c.slot, region := c.region, seq := (before c.region).nextSeq, frame := s.framer.frameNumber + 1,
            outW := d.outW, outH := d.outH, bpp := s.framer.depth.bpp, route := d.route, label := d.label,
            bytesExpected := d.outW * d.outH * s.framer.depth.bpp, bytesWritten := 0, fill := .filling,
            delivery := .waiting, chain := [], bytesSent := 0, abandonReason := none })

/-- R46 to R50: a due region with fewer COMPLETE captures than its depth takes a free record and opens a capture with it, last in its
list; with no free record it skips the capture with NO_RECORD and discards nothing, under either policy. At its depth it skips the
capture with DEPTH (KEEP_OLD), or discards its oldest COMPLETE/WAITING captures until it is below its depth and then opens, or skips
with DEPTH if they do not suffice (KEEP_NEW). At a frame start with a free record for every region, each due region below its depth has
its open capture afterwards. -/
def Obligations.DueRegionOpensSkipsOrDiscards : Prop :=
  (∀ (s : State) (r : RegionId) (d : RegionDef), s.framer.state = .waiting → s.framer.fv = .low → 1 ≤ s.framer.height →
      s.inHand = none → s.table.commitPending = false → (s.entry r).definition = some d → (s.entry r).run = .armed →
      (s.entry r).phase = 0 → (d.mode = .continuous ∨ (s.entry r).remaining ≠ 0) → s.completeCount r < d.depth → 16 ≤ s.freeRecords.length →
      ∃ t c, exec .frameStart s = .next t ∧ (t.captureList r).getLast? = some c ∧ c.fill = .filling ∧
        c.delivery = .waiting ∧ c.seq = (s.entry r).nextSeq ∧ c.frame = s.framer.frameNumber + 1 ∧ c.bytesWritten = 0 ∧
        c.chain = [] ∧ ((∀ x ∈ s.captureList r, x.fill ≠ .filling) → t.openCapture r = some c)) ∧
  (∀ (s : State) (r : RegionId) (d : RegionDef), s.RecordsDistinct → (s.entry r).definition = some d →
      (s.entry r).run = .armed → (s.entry r).phase = 0 → (d.mode = .continuous ∨ (s.entry r).remaining ≠ 0) →
      let seq := (s.entry r).nextSeq
      let numbered := s.setEntry r { s.entry r with phase := d.stride - 1, nextSeq := seq + 1 }
      let opensFrom (u : State) : Prop := ∃ slot ∈ u.freeRecords, s.evaluateRegion r = { u with
        captures := u.captures ++ [{
          slot := slot, region := r, seq := seq, frame := s.framer.frameNumber, outW := d.outW, outH := d.outH
          bpp := s.framer.depth.bpp, route := d.route, label := d.label
          bytesExpected := d.outW * d.outH * s.framer.depth.bpp, bytesWritten := 0, fill := .filling, delivery := .waiting
          chain := [], bytesSent := 0, abandonReason := none }] }
      let k := min (s.candidates r).length (s.completeCount r + 1 - d.depth)
      let roomy := ((s.candidates r).take k).foldl State.discard numbered
      (s.completeCount r < d.depth → s.freeRecords = [] → s.evaluateRegion r = numbered.chargeLoss r .noRecord) ∧
      (s.completeCount r < d.depth → s.freeRecords ≠ [] → opensFrom numbered) ∧
      (d.depth ≤ s.completeCount r → d.policy = .keepOld → s.evaluateRegion r = numbered.chargeLoss r .depth) ∧
      (d.policy = .keepNew → d.depth ≤ s.completeCount r → s.completeCount r - k < d.depth → opensFrom roomy) ∧
      (d.policy = .keepNew → d.depth ≤ s.completeCount r - k → s.evaluateRegion r = roomy.chargeLoss r .depth))

/-- R28, R30: a line start in IN_FRAME is accepted below H lines, and is FRAME_LONG at H lines, which costs the count, the INPUT notice
and the rest of the frame when no capture is FILLING; the same edge's pixel is not taken. A line end is LINE_SHORT below W pixels; at W
pixels the row end reaches the regions in ascending id and lines_done increases. -/
def Obligations.LineStartAndEndCheckGeometry : Prop :=
  (∀ s : State, s.framer.state = .inFrame → s.framer.lv = .low → s.inHand = none →
      (s.framer.linesDone < s.framer.height →
        exec .lineStart s = .next { s with framer := { s.framer with lv := .high, pixelCount := 0 } }) ∧
      (s.framer.height ≤ s.framer.linesDone →
        let counted : State := { s with framer := { s.framer with
          lv := .high, errors := { s.framer.errors with frameLong := satInc s.framer.errors.frameLong } } }
        let t := counted.enterSkipping .frameError .frameLong
        exec .lineStart s = .next t ∧ (∀ pd, exec (.pixel pd) t = .next t) ∧
        ((∀ c ∈ s.captures, c.fill ≠ .filling) →
          t = { counted with
            framer := { counted.framer with state := .skipping }
            link := s.link.raise (.input .frameLong s.framer.frameNumber) }))) ∧
  (∀ s : State, s.framer.state = .inFrame → s.framer.lv = .high → s.inHand = none →
      (s.framer.pixelCount < s.framer.width →
        exec .lineEnd s = .next
          (({ s with framer := { s.framer with
              lv := .low
              errors := { s.framer.errors with lineShort := satInc s.framer.errors.lineShort } } } : State).enterSkipping
            .lineError .lineShort)) ∧
      (s.framer.width ≤ s.framer.pixelCount →
        exec .lineEnd s = .next
          { allRegions.foldl (State.rowEndOf s.framer.linesDone) { s with framer := { s.framer with lv := .low } } with
            framer := { s.framer with lv := .low, linesDone := s.framer.linesDone + 1 } }))

/-- R29, R22, R51, R74, R80: a pixel in IN_FRAME is counted and handed, with its column, row and value, to every region that samples it,
in ascending id; pixel W + 1 is LINE_LONG. One step takes one block request of the pixel at most; the regions left are reached by later
steps, against the pool as the commands between have left it, and a free from elsewhere (TAKE, RELEASE, FLUSH and the like) leaves the
pixel in hand as it is. Every event of the pixel port first finishes it. That PIXEL takes the first request, an idle step the next one,
and an event of the port all that are left, is the model's choice (log 21). -/
def Obligations.PixelCountedAndHandedToRegions : Prop :=
  (∀ (s : State) (pd : PixelLines), s.framer.state = .inFrame → s.framer.lv = .high → s.inHand = none →
    let counted : State := { s with framer := { s.framer with pixelCount := s.framer.pixelCount + 1 } }
    (s.framer.pixelCount < s.framer.width →
      ∃ t, exec (.pixel pd) s = .next t ∧
        State.ServedUpTo s.framer.pixelCount s.framer.linesDone (pixelValue s.framer.depth pd) allRegions counted t) ∧
    (s.framer.width ≤ s.framer.pixelCount →
      exec (.pixel pd) s = .next
        (({ counted with framer := { counted.framer with
            errors := { s.framer.errors with lineLong := satInc s.framer.errors.lineLong } } } : State).enterSkipping
          .lineError .lineLong))) ∧
  ((∀ (s : State) (p : PixelInHand), s.pending = [] → s.inHand = some p →
      ∃ t, step s = .next t ∧ State.ServedUpTo p.x p.y p.value p.rest s t) ∧
    (∀ (c : Instr) (s t : State), atPixelPort c = false → s.framer.state = .inFrame → exec c s = .next t →
      c ≠ .stopInputNow → c ≠ .pinReset → c ≠ .frameSent → c ≠ .linkBreak → t.inHand = s.inHand) ∧
    (∀ (c : Instr) (s : State), atPixelPort c = true →
      exec c s = exec c s.finishPixel ∧ s.finishPixel.inHand = none ∧
      (s.inHand = none → s.finishPixel = s) ∧
      ∀ p, s.inHand = some p → s.finishPixel = { p.rest.foldl (fun u r =>
        if u.regionSamples r p.x p.y then u.writePixel r p.value else u) s with inHand := none })) ∧
  (∀ pd : PixelLines, (pixelValue .bits8 pd).toNat = pd.toNat % 256 ∧ (pixelValue .bits10 pd).toNat = pd.toNat % 1024 ∧
    (pixelValue .bits12 pd).toNat = pd.toNat) ∧
  (∀ (s : State) (r : RegionId) (x y : Nat), s.regionSamples r x y = true ↔
    ∃ d, (s.entry r).definition = some d ∧ d.x0 ≤ x ∧ x < d.x0 + d.width ∧ (x - d.x0) % d.colStep = 0 ∧
      d.y0 ≤ y ∧ y < d.y0 + d.height ∧ (y - d.y0) % d.rowStep = 0)

/-- R31, R32, R39, R58, R23: a frame end ends a clean frame, a short one or a skipped one, in WAITING or with stop-pending in STOPPED;
with LV high the line end is taken first. The entry into SKIPPING abandons every FILLING capture in ascending id, then raises INPUT, then
changes the state; the entry into STOPPED clears stop-pending, drops what is left of a pixel in hand (log 21), raises INPUT with
STOPPED, then applies a pending commit. In SKIPPING lines and pixels are ignored. How FRAME_END, lines and pixels move the followed
levels is the model's choice (log 10). -/
def Obligations.FrameEndAndEntriesInOrder : Prop :=
  (∀ s : State, s.framer.fv = .high → s.inHand = none →
      let leave (u : State) : State :=
        if s.framer.stopPending then u.enterStopped else { u with framer := { u.framer with state := .waiting } }
      let fallen : State := { s with framer := { s.framer with fv := .low } }
      let counted : State := { s with framer := { s.framer with
        fv := .low, errors := { s.framer.errors with frameShort := satInc s.framer.errors.frameShort } } }
      (s.framer.lv = .low → s.framer.state = .inFrame → s.framer.height ≤ s.framer.linesDone →
        exec .frameEnd s = .next (leave fallen)) ∧
      (s.framer.lv = .low → s.framer.state = .inFrame → s.framer.linesDone < s.framer.height →
        exec .frameEnd s = .next (leave ((counted.abandonAll .shortFrame).raise (.input .frameShort s.framer.frameNumber)))) ∧
      (s.framer.lv = .low → s.framer.state = .skipping → exec .frameEnd s = .next (leave fallen)) ∧
      (s.framer.lv = .high → ∀ u, exec .lineEnd s = .next u → exec .frameEnd s = exec .frameEnd u)) ∧
  ((∀ (s : State) (reason : LossReason) (event : InputEvent),
      let emptied := allRegions.foldl (fun t r => t.abandonOpen reason r) s
      emptied.framer = s.framer ∧
      s.enterSkipping reason event =
        { emptied with
          framer := { s.framer with state := .skipping }
          link := emptied.link.raise (.input event s.framer.frameNumber) }) ∧
    (∀ s : State,
      let stopped : State := { s with
        framer := { s.framer with state := .stopped, stopPending := false }
        inHand := none
        link := s.link.raise (.input .stopped s.framer.frameNumber) }
      s.enterStopped = if s.table.commitPending then stopped.applyCommit else stopped) ∧
    (∀ s : State, s.framer.state = .skipping → s.inHand = none →
      (s.framer.lv = .low → exec .lineStart s = .next { s with framer := { s.framer with lv := .high } }) ∧
      (∀ pd, exec (.pixel pd) s = .next { s with framer := { s.framer with lv := .high } }) ∧
      (s.framer.lv = .high → exec .lineEnd s = .next { s with framer := { s.framer with lv := .low } })))

/-! ### Captures, blocks and records -/

/-- R52, R53, R54, R76, R112: a pixel that has a place in its capture's last block, or whose block request is granted, at once or after
the discards of the KEEP_NEW loop, is stored at offset bytes_written, low byte first, in the last block of the chain; every other byte
of the memory stays; the write is then told to the capture's drain. Where the chain holds the blocks of the bytes written and not yet
sent, that place is byte bytes_written of the capture, and the chain goes on doing so. -/
def Obligations.PixelBytesLandInOrder : Prop :=
  ∀ (s : State) (r : RegionId) (v : Half) (c : Capture), s.PoolLaw → s.RecordsDistinct → s.WholePixels →
    s.CellsCanonical → s.openCapture r = some c →
    let o := c.bytesWritten % 512
    let asked : State × Bool := if o = 0 then State.requestBlock r c.slot (s.discardable r) s else (s, true)
    let t := s.writePixel r v
    asked.2 = true → (o ≠ 0 → c.chain ≠ []) →
    ∃ c₀ c' b cells, asked.1.capture c.slot = some c₀ ∧ c₀ = { c with chain := c₀.chain } ∧
      c₀.chain.getLast? = some b ∧ (o ≠ 0 → c₀.chain = c.chain) ∧ (o = 0 → c₀.chain = c.chain ++ [b]) ∧
      t = ({ asked.1 with
        memory := { asked.1.memory with cells := cells }
        captures := asked.1.captures.map (fun x =>
          if x.slot = c.slot then { x with bytesWritten := x.bytesWritten + x.bpp } else x) } : State).tellDrainOfWrite c₀ ∧
      t.memory.cells = cells ∧
      t.capture c.slot = some c' ∧ c'.bytesWritten = c.bytesWritten + c.bpp ∧ c'.chain = c₀.chain ∧
      Memory.read cells (512 * b + o) = v.setWidth 8 ∧
      (c.bpp = 2 → Memory.read cells (512 * b + o + 1) = (v >>> 8).setWidth 8) ∧
      (∀ a, a ≠ 512 * b + o → (c.bpp = 2 → a ≠ 512 * b + o + 1) →
        Memory.read cells a = Memory.read s.memory.cells a) ∧
      (∀ x ∈ t.captures, x.slot ≠ c.slot → ∀ i, t.captureByte x i = s.captureByte x i) ∧
      (c.bytesSent ≤ c.bytesWritten → c.chain.length = ceilDiv c.bytesWritten 512 - c.bytesSent / 512 →
        t.captureByte c' c.bytesWritten = v.setWidth 8 ∧
        (c.bpp = 2 → t.captureByte c' (c.bytesWritten + 1) = (v >>> 8).setWidth 8) ∧
        (∀ i, c.bytesSent / 512 * 512 ≤ i → i < c.bytesWritten → t.captureByte c' i = s.captureByte c i) ∧
        c'.bytesSent = c.bytesSent ∧ c'.chain.length = ceilDiv c'.bytesWritten 512 - c'.bytesSent / 512)

/-- R73, R75, R76, R77: a block request is granted exactly when the free count is at least 1, the region is below its limit, and it is
below its reserve or the free count exceeds what the other regions' unmet reserves count on; a grant moves one block to the end of the
chain. After a refusal a KEEP_NEW region discards its COMPLETE/WAITING captures one at a time, oldest first, judging again after each,
up to the first grant or the last candidate; a KEEP_OLD region discards none. A request that ends in refusal abandons the capture. That the block
granted is the front of the free list is the model's choice (log 8). -/
def Obligations.BlockRequestGrantedOrRefused : Prop :=
  (∀ (s : State) (r : RegionId) (c : Capture), s.RecordsDistinct → c ∈ s.captures → c.region = r →
      let others := ((allRegions.filter (fun x => x ≠ r)).map (fun x => (s.entry x).reserve - s.held x)).sum
      let granted := 1 ≤ s.freeCount ∧ s.held r < (s.entry r).limit ∧
        (s.held r < (s.entry r).reserve ∨ others < s.freeCount)
      (granted → ∀ cs, ∃ b pool, s.memory.freePool = b :: pool ∧
        let t : State := { s with
          memory := { s.memory with freePool := pool }
          captures := s.captures.map (fun x => if x.slot = c.slot then { x with chain := x.chain ++ [b] } else x) }
        State.requestBlock r c.slot cs s = (t, true) ∧ t.held r = s.held r + 1) ∧
      (¬granted → State.requestBlock r c.slot [] s = (s, false))) ∧
  ((∀ (s : State) (r : RegionId) (slot : Nat) (cs : List Capture),
      let after (k : Nat) : State := (cs.take k).foldl State.discard s
      ∃ k, k ≤ cs.length ∧ (∀ j, j < k → (after j).grantable r = false) ∧
        (((after k).grantable r = true ∧ State.requestBlock r slot cs s = ((after k).grantBlock slot, true)) ∨
         ((after k).grantable r = false ∧ k = cs.length ∧ State.requestBlock r slot cs s = (after k, false)))) ∧
    (∀ (s : State) (r : RegionId) (d : RegionDef), (s.entry r).definition = some d →
      (d.policy = .keepOld → s.discardable r = []) ∧
      (d.policy = .keepNew → s.discardable r =
        s.captures.filter (fun c => c.region = r && (c.fill = .complete && c.delivery = .waiting)))) ∧
    (∀ (s : State) (r : RegionId) (v : Half) (c : Capture), s.openCapture r = some c → c.bytesWritten % 512 = 0 →
      (State.requestBlock r c.slot (s.discardable r) s).2 = false →
      s.writePixel r v = (State.requestBlock r c.slot (s.discardable r) s).1.abandon c .noBlocks))

/-- R69, R57, R61, R79, R82: while the free count covers the unmet reserves, a region below its reserve finds a block; a grant, the free
of a capture, a discard, an abandonment and a take at a drain (with the block that it frees) keep the cover, and a reset makes it. -/
def Obligations.GrantsAndFreesKeepReserveCover : Prop :=
  let covered (s : State) : Prop := s.unmetTotal ≤ s.freeCount
  (∀ (s : State) (r : RegionId), covered s → s.held r < (s.entry r).reserve → 1 ≤ s.freeCount) ∧
  (∀ (s : State) (c : Capture), s.RecordsDistinct → c ∈ s.captures → covered s →
    (s.grantable c.region = true → covered (s.grantBlock c.slot)) ∧ covered (s.freeCapture c) ∧ covered (s.discard c) ∧
    ∀ reason, covered (s.abandon c reason)) ∧
  (∀ (s t : State) (d : DrainId), s.RecordsDistinct → covered s → exec (.take d) s = .next t → covered t) ∧
  (∀ s t : State, exec .pinReset s = .next t → t.freeCount = 512 ∧ t.unmetTotal = 0) ∧
  (∀ (s : State) (cause : ResetCause), (s.partReset cause).freeCount = 512 ∧ (s.partReset cause).unmetTotal = 0)

/-- R55, R56, R6, R96: a row end changes nothing for a region with no open capture, and nothing where the row is not the open capture's
last sampled row, however many of its bytes are written. The end of the last sampled row, with every byte written, does in this order:
COMPLETE, the runtime of its region, READY for a link capture or the drain's evaluation for an ACTIVE drain capture, and DONE with its
notice last. -/
def Obligations.LastRowEndCompletesCapture : Prop :=
  (∀ (s : State) (r : RegionId) (row : Nat), s.openCapture r = none → State.rowEndOf row s r = s) ∧
  (∀ (s : State) (r : RegionId) (c : Capture) (d : RegionDef) (row : Nat), s.openCapture r = some c →
    (s.entry r).definition = some d → row ≠ d.y0 + (c.outH - 1) * d.rowStep → State.rowEndOf row s r = s) ∧
  (∀ (s : State) (r : RegionId) (c : Capture) (d : RegionDef) (row : Nat), s.openCapture r = some c →
    (s.entry r).definition = some d → row = d.y0 + (c.outH - 1) * d.rowStep → c.bytesWritten = c.bytesExpected →
    let e := s.entry r
    let filled : State := { s with
      captures := s.captures.map (fun x => if x.slot = c.slot then { x with fill := .complete } else x) }
    let announced (u : State) : State :=
      match c.route with
      | .link => u.raise (.ready r)
      | .drain x => if c.delivery = .active ∧ (u.drain x).rq = .low then u.evaluateBurst x else u
    (d.mode = .continuous →
      State.rowEndOf row s r = announced (filled.setEntry r { e with completed := satInc e.completed })) ∧
    (∀ n, d.mode = .count n →
      let counted := { e with completed := e.completed + 1, remaining := e.remaining - 1 }
      (e.run ≠ .armed ∨ e.completed + 1 ≠ n → State.rowEndOf row s r = announced (filled.setEntry r counted)) ∧
      (e.run = .armed → e.completed + 1 = n →
        State.rowEndOf row s r =
          ((announced (filled.setEntry r counted)).setEntry r { counted with run := .done }).raise (.done r))))

/-- R57, R58, R115: an abandonment returns the chain, charges the loss with its reason, and frees a WAITING capture; the ACTIVE head of
a drain stays as ABANDONED with its reason, its burst is cut, and the drain presents trailer word 0. The abandonment of every FILLING
capture takes the 16 regions in ascending id: it abandons the open capture of each, and passes over a region that has none. -/
def Obligations.AbandonmentReturnsBlocks : Prop :=
  (∀ (s : State) (c : Capture) (reason : LossReason), s.RecordsDistinct → c ∈ s.captures →
    let e := s.entry c.region
    let t := s.abandon c reason
    t.framer = s.framer ∧ t.memory = { s.memory with freePool := s.memory.freePool ++ c.chain } ∧
    t.table = { s.table with active := s.table.active.set c.region { e with lost := satInc e.lost } } ∧
    t.link = s.link.raise (.lost c.region 1 reason) ∧
    (c.delivery = .waiting →
      t.captures = s.captures.filter (fun x => x.slot ≠ c.slot) ∧
      ∀ d : DrainId, t.drain d = { s.drain d with queue := (s.drain d).queue.filter (fun n => n ≠ c.slot) }) ∧
    (∀ d : DrainId, c.delivery = .active → c.route = .drain d → s.head d = some c →
      ((s.drain d).state = .streaming ∨ (s.drain d).state = .stopping) →
      t.captures = s.captures.map (fun x =>
        if x.slot = c.slot then { x with fill := .abandoned, chain := [], abandonReason := some reason } else x) ∧
      t.drain d = { s.drain d with
        position := some (.trailer 0), rq := .high, burst := min (s.drain d).grain 2
        timer := if (s.drain d).rq = .high then (s.drain d).timer
          else if (s.drain d).timeout = 0 then .stopped else .running })) ∧
  (∀ (s : State) (reason : LossReason),
    (∀ r : RegionId,
      (s.openCapture r = none → s.abandonOpen reason r = s ∧ ∀ c ∈ s.captures, c.region = r → c.fill ≠ .filling) ∧
      (∀ c, s.openCapture r = some c →
        s.abandonOpen reason r = s.abandon c reason ∧ c ∈ s.captures ∧ c.region = r ∧ c.fill = .filling)) ∧
    s.abandonAll reason = (List.finRange 16).foldl (fun t r => t.abandonOpen reason r) s)

/-- R60, R61, R7, R84: freeing a capture removes it from its list and queue, returns its blocks and its record, and leaves the
rest; a discard also charges a loss; free and in-use records together number 48. -/
def Obligations.FreedCaptureReturnsBlocksAndRecord : Prop :=
  ∀ (s : State) (c : Capture), s.RecordsDistinct →
    s.freeRecords.length + s.captures.length = 48 ∧
    (c ∈ s.captures →
      let t := s.freeCapture c
      let e := s.entry c.region
      t = { s with
        memory := { s.memory with freePool := s.memory.freePool ++ c.chain }
        captures := s.captures.filter (fun x => x.slot ≠ c.slot)
        drainA := { s.drainA with queue := s.drainA.queue.filter (fun n => n ≠ c.slot) }
        drainB := { s.drainB with queue := s.drainB.queue.filter (fun n => n ≠ c.slot) } } ∧
      t.freeCount = s.freeCount + c.chain.length ∧ t.held c.region + c.chain.length = s.held c.region ∧
      (∀ x : RegionId, x ≠ c.region → t.held x = s.held x ∧ t.captureList x = s.captureList x) ∧
      t.freeRecords.length = s.freeRecords.length + 1 ∧ c.slot ∈ t.freeRecords ∧
      s.discard c = { t with
        table := { s.table with active := s.table.active.set c.region { e with lost := satInc e.lost } }
        link := s.link.raise (.lost c.region 1 .discarded) })

/-- R18, R19: an apply replaces all 16 active entries from the staged copy, keeps every next_seq and the staged copy, clears the
flag, raises APPLIED with the frame number, and leaves every capture and drain as it was. -/
def Obligations.ApplyReplacesEveryActiveEntry : Prop :=
  ∀ s : State,
    let t := s.applyCommit
    (∀ (r : RegionId) (d : RegionDef), s.table.staged[r] = some d →
      t.entry r =
        { definition := some d, run := .armed, phase := 0,
          remaining := match d.mode with | .count n => n | .continuous => 0
          completed := 0, nextSeq := (s.entry r).nextSeq, lost := 0 }) ∧
    (∀ r : RegionId, s.table.staged[r] = none →
      t.entry r =
        { definition := none, run := .unused, phase := 0, remaining := 0, completed := 0,
          nextSeq := (s.entry r).nextSeq, lost := 0 }) ∧
    t.table.staged = s.table.staged ∧ t.table.commitPending = false ∧
    t = { s with table := t.table, link := s.link.raise (.applied s.framer.frameNumber) }

/-! ### Notices and the transmitter -/

/-- R147, R148: a raise is dropped while a reset is pending or its kind is masked; else it updates the waiting entry of its kind
and key in its place, or creates an entry at the end of the set, after which the arbiter chooses. -/
def Obligations.RaiseUpdatesOrCreatesEntry : Prop :=
  (∀ (l : Link) (n : Notice), l.resetPending = true ∨ l.isMasked n = true → l.raise n = l) ∧
  (∀ (l : Link) (n : Notice), l.resetPending = false → l.isMasked n = false →
    ((∀ e ∈ l.notices, sameKey e n = false) → l.raise n = ({ l with notices := l.notices ++ [n] } : Link).arbitrate) ∧
    (∀ before e after, l.notices = before ++ e :: after → (∀ x ∈ before ++ after, sameKey x n = false) →
      let updated (e' : Notice) : Link := { l with notices := before ++ e' :: after }
      (∀ r, n = .ready r → e = .ready r → l.raise n = l) ∧
      (∀ r count last reason, n = .lost r 1 reason → e = .lost r count last →
        l.raise n = updated (.lost r (if count = 255 then 255 else count + 1) reason)) ∧
      (∀ r, n = .done r → e = .done r → l.raise n = l) ∧
      (∀ f f', n = .applied f' → e = .applied f → l.raise n = updated (.applied f')) ∧
      (∀ v f v' f', n = .input v' f' → e = .input v f → l.raise n = updated (.input v' f')) ∧
      (∀ d, n = .drain d → e = .drain d → l.raise n = l) ∧
      (∀ count, n = .overrun 1 → e = .overrun count →
        l.raise n = updated (.overrun (if count = 255 then 255 else count + 1))))) ∧
  (∀ (l : Link) (c : ResetCause), l.isMasked (.started c) = false)

/-- R138, R141, R150: the arbiter's choice for each row of its table; a chosen notice leaves the set at once, a chosen reply stays
in its queue; a sending transmitter is left alone, and with reset-pending set no notice is chosen. -/
def Obligations.ArbiterChoosesByTable : Prop :=
  ∀ l : Link,
    (l.transmitter ≠ .idle → l.arbitrate = l) ∧
    (l.transmitter = .idle → l.resetPending = false →
      (l.replies = [] → l.notices = [] → l.arbitrate = l) ∧
      (∀ n rest, l.replies = [] → l.notices = n :: rest →
        l.arbitrate = { l with transmitter := .sendingNotice n, notices := rest, repliesInRow := 0 }) ∧
      (l.replies ≠ [] → l.notices = [] → l.arbitrate = { l with transmitter := .sendingReply, repliesInRow := 0 }) ∧
      (l.replies ≠ [] → l.notices ≠ [] → l.repliesInRow < 4 →
        l.arbitrate = { l with transmitter := .sendingReply, repliesInRow := l.repliesInRow + 1 }) ∧
      (∀ n rest, l.replies ≠ [] → l.notices = n :: rest → 4 ≤ l.repliesInRow →
        l.arbitrate = { l with transmitter := .sendingNotice n, notices := rest, repliesInRow := 0 })) ∧
    (l.transmitter = .idle → l.resetPending = true →
      (l.replies = [] → l.arbitrate = l) ∧
      (l.replies ≠ [] → l.arbitrate = { l with transmitter := .sendingReply, repliesInRow := 0 }))

/-- R139, R137, 9.1, R154, R160, R163: the end of a frame on TXD: a reply leaves the reply queue, the transmitter is IDLE, and the arbiter
chooses again; the frame on the line is the head reply's, or the chosen notice's with tag 0. A frame is SYNC, LEN, KIND, TAG, PAYLOAD and
the CRC, low byte first; the payload of each kind of notice; the procedure of the CRC. That a FRAME_SENT with the transmitter IDLE leaves
the state (log 1), and that the RESET reply is known by its kind and payload (log 19), are the model's choices. -/
def Obligations.FrameEndsAndArbiterChooses : Prop :=
  (∀ s : State,
    (s.link.transmitter = .idle → exec .frameSent s = .next s) ∧
    (∀ n, s.link.transmitter = .sendingNotice n →
      exec .frameSent s = .next { s with link := ({ s.link with transmitter := .idle } : Link).arbitrate } ∧
      s.link.frameOnLine = some (frameBytes (BitVec.ofNat 8 (0x40 + noticeIndex n)) 0 (noticePayload n))) ∧
    (∀ r rest, s.link.transmitter = .sendingReply → s.link.replies = r :: rest →
      s.link.frameOnLine = some (frameBytes r.kind r.tag r.payload) ∧
      (s.link.resetPending = false ∨ r.kind ≠ 0x83 ∨ r.payload ≠ [0x00] →
        exec .frameSent s = .next
          { s with link := ({ s.link with replies := rest, transmitter := .idle } : Link).arbitrate }))) ∧
  (∀ (kind tag : Byte) (payload : List Byte),
    let covered := BitVec.ofNat 8 (payload.length + 2) :: kind :: tag :: payload
    frameBytes kind tag payload = 0xC5 :: covered ++ [(crc covered).setWidth 8, (crc covered >>> 8).setWidth 8]) ∧
  (crc [] = 0xFFFF ∧ ∀ (covered : List Byte) (b : Byte),
    crc (covered ++ [b]) = (fun c : Half => if c.msb then (c <<< 1) ^^^ 0x1021 else c <<< 1)^[8]
      (crc covered ^^^ (b.setWidth 16 <<< 8))) ∧
  (let word (f : Word) : List Byte := [f.setWidth 8, (f >>> 8).setWidth 8, (f >>> 16).setWidth 8, (f >>> 24).setWidth 8]
   let region (r : RegionId) : Byte := BitVec.ofNat 8 r.val
   (∀ cause, noticeIndex (.started cause) = 0 ∧
     noticePayload (.started cause) = [match cause with | .pin => 0x00 | .request => 0x01, 0x03]) ∧
   (∀ r, noticeIndex (.ready r) = 1 ∧ noticePayload (.ready r) = [region r]) ∧
   (∀ r count reason, noticeIndex (.lost r count reason) = 2 ∧
     noticePayload (.lost r count reason) = [region r, count, match reason with
       | .depth => 0x01 | .noRecord => 0x02 | .noBlocks => 0x03 | .discarded => 0x04 | .lineError => 0x05
       | .frameError => 0x06 | .shortFrame => 0x07 | .inputStopped => 0x08 | .halted => 0x09 | .drainAbort => 0x0A
       | .drainStall => 0x0B]) ∧
   (∀ r, noticeIndex (.done r) = 3 ∧ noticePayload (.done r) = [region r]) ∧
   (∀ f, noticeIndex (.applied f) = 4 ∧ noticePayload (.applied f) = word f) ∧
   (∀ event f, noticeIndex (.input event f) = 5 ∧
     noticePayload (.input event f) = (match event with
       | .lineLong => 0x01 | .lineShort => 0x02 | .frameLong => 0x03 | .frameShort => 0x04 | .strayLine => 0x05
       | .stopped => 0x06) :: word f) ∧
   (∀ d, noticeIndex (.drain d) = 6 ∧ noticePayload (.drain d) = [match d with | .a => 0x00 | .b => 0x01, 0x01]) ∧
   (∀ count, noticeIndex (.overrun count) = 7 ∧ noticePayload (.overrun count) = [count]))

/-- R145, R153: at readiness the Link Controller holds its reset values with the sampled rate, and STARTED with the cause of the
reset is the only notice and the first frame. The judged level of RXD is the operand (log 17). -/
def Obligations.ReadinessEntersStarted : Prop :=
  ∀ (s : State) (baud : BitVec 2) (rxd : Level) (cause : ResetCause), s.readiness = .resetting cause →
    ∃ t, exec (.partReady baud rxd) s = .next t ∧
      t = { s with
        readiness := .ready
        link :=
          { rate := baud, receiver := .hunt, rxd := match rxd with | .high => .high | .low => .low
            requests := [], replies := [], lastReply := none, notices := [], mask := Vector.replicate 7 .enabled
            transmitter := .sendingNotice (.started cause), repliesInRow := 0, resetPending := false
            receiveDiscards := 0, overruns := 0 } } ∧
      t.link.frameOnLine = some (frameBytes 0x40 0x00 [match cause with | .pin => 0x00 | .request => 0x01, 0x03])

/-! ### The receiver -/

/-- R129: what a good byte does in each state of the receiver. That FRAME_BYTE_TAKEN acts on a refused LEN and on the second CRC byte as
LEN_REFUSED and REQUEST_FRAME do is the model's choice (log 16). -/
def Obligations.ReceiverFollowsByteTable : Prop :=
  ∀ (s : State) (b : Byte), s.readiness = .ready → s.link.rxd = .high →
    let becomes (r : Receiver) : State := { s with link := { s.link with receiver := r } }
    let discarded : State := { s with link := { s.link with
      receiver := .hunt, receiveDiscards := satInc s.link.receiveDiscards } }
    (s.link.receiver = .hunt →
      (b = 0xC5 → exec (.frameByteTaken b) s = .next (becomes .length) ∧
        s.link.gapTimerRunning = false ∧ (becomes .length).link.gapTimerRunning = true) ∧
      (b ≠ 0xC5 → exec (.frameByteTaken b) s = .next s)) ∧
    (s.link.receiver = .length →
      (2 ≤ b.toNat → b.toNat ≤ 250 → exec (.frameByteTaken b) s = .next (becomes (.body b []))) ∧
      (b.toNat < 2 ∨ 250 < b.toNat →
        exec (.frameByteTaken b) s = .next discarded ∧ exec (.lenRefused b) s = .next discarded)) ∧
    (∀ len taken, s.link.receiver = .body len taken →
      (taken.length + 1 < len.toNat → exec (.frameByteTaken b) s = .next (becomes (.body len (taken ++ [b])))) ∧
      (taken.length + 1 = len.toNat → exec (.frameByteTaken b) s = .next (becomes (.crc len (taken ++ [b]) none)))) ∧
    (∀ len taken, s.link.receiver = .crc len taken none →
      exec (.frameByteTaken b) s = .next (becomes (.crc len taken (some b)))) ∧
    (∀ len taken low, s.link.receiver = .crc len taken (some low) →
      exec (.frameByteTaken b) s = exec (.requestFrame b) s ∧
      ∃ t, exec (.frameByteTaken b) s = .next t ∧ t.link.receiver = .hunt)

/-- R130, R132, R141, R160: the judging of a frame in its order of cases, at the second CRC byte; a good frame joins the request
queue. The CRC of the bytes 31h to 39h is 29B1h. -/
def Obligations.FrameIsJudgedInOrder : Prop :=
  (∀ (s : State) (high low len kind tag : Byte) (payload : List Byte), s.readiness = .ready → s.link.rxd = .high →
      s.link.receiver = .crc len (kind :: tag :: payload) (some low) →
      let received : Half := high ++ low
      let covered := len :: kind :: tag :: payload
      let notRequest := (0x40 ≤ kind.toNat ∧ kind.toNat ≤ 0x47) ∨ 0x80 ≤ kind.toNat
      let discarded : State := { s with link := { s.link with
        receiver := .hunt, receiveDiscards := satInc s.link.receiveDiscards } }
      (crc covered ≠ received ∨ notRequest ∨ tag = 0 → exec (.requestFrame high) s = .next discarded) ∧
      (crc covered = received → ¬notRequest → tag ≠ 0 → s.link.resetPending = true →
        exec (.requestFrame high) s = .next { s with link := { s.link with receiver := .hunt } }) ∧
      (crc covered = received → ¬notRequest → tag ≠ 0 → s.link.resetPending = false → 4 ≤ s.link.requests.length →
        exec (.requestFrame high) s = .next { s with
          link := ({ s.link with receiver := .hunt, overruns := satInc s.link.overruns } : Link).raise (.overrun 1) }) ∧
      (crc covered = received → ¬notRequest → tag ≠ 0 → s.link.resetPending = false → s.link.requests.length < 4 →
        exec (.requestFrame high) s = .next { s with link := { s.link with
          receiver := .hunt, requests := s.link.requests ++ [{ kind := kind, tag := tag, payload := payload }] } })) ∧
  (crc [0x31, 0x32, 0x33, 0x34, 0x35, 0x36, 0x37, 0x38, 0x39] = 0x29B1)

/-- R128, R131, R142, R143, R100, R141: a framing error and the expiry of the gap timer discard the partial frame with a count; after a
framing error no byte is taken until RXD has been sampled high. A link break empties the Link Controller's queues, store and notice
set, keeps the mask, the counts and the rate, returns every fetched capture to WAITING in its place, and reaches no other block; with
reset-pending set the part is reset; one low run makes one break. That GAP_TIMER_EXPIRY in
HUNT leaves the state (log 1), and that a LINK_BREAK may come with RXD judged high (log 17), are the model's choices. -/
def Obligations.LineEventsDiscardAndBreak : Prop :=
  (∀ s : State,
      let discarded : Link := { s.link with receiver := .hunt, receiveDiscards := satInc s.link.receiveDiscards }
      (s.readiness = .ready → s.link.rxd = .high →
        (s.link.receiver ≠ .hunt → exec .framingError s = .next { s with link := { discarded with rxd := .low } }) ∧
        (s.link.receiver = .hunt → exec .framingError s = .next { s with link := { s.link with rxd := .low } })) ∧
      (s.link.receiver ≠ .hunt → exec .gapTimerExpiry s = .next { s with link := discarded }) ∧
      (s.link.receiver = .hunt → exec .gapTimerExpiry s = .next s) ∧
      (s.readiness = .ready → exec .rxdReturnsHigh s = .next { s with link := { s.link with rxd := .high } }) ∧
      (s.link.rxd ≠ .high ∨ s.readiness ≠ .ready → ∀ b, exec (.frameByteTaken b) s = .next s)) ∧
  (∀ s : State, s.readiness = .ready →
      (s.link.rxd ≠ .broken → s.link.resetPending = false →
        exec .linkBreak s = .next { s with
          captures := s.captures.map (fun c =>
            if c.route = .link ∧ c.delivery = .active then { c with delivery := .waiting } else c)
          link := { s.link with
            receiver := .hunt, rxd := .broken, requests := [], replies := [], lastReply := none, notices := []
            transmitter := .idle, repliesInRow := 0 } }) ∧
      (s.link.rxd ≠ .broken → s.link.resetPending = true → exec .linkBreak s = .next (s.partReset .request)) ∧
      (s.link.rxd = .broken → exec .linkBreak s = .next s))

/-! ### The execution of requests -/

/-- R133, R135, R137: with 4 replies queued the head of the request queue waits, whatever it is. At the end of an execution the request
leaves its queue, the reply with its tag and its kind plus 80h is entered at the end of the reply queue and stored, and the arbiter
chooses if the transmitter is IDLE; nothing but the Link Controller changes. -/
def Obligations.ExecutionWaitsThenEntersReply : Prop :=
  (∀ (c : Instr) (s : State), (requestRow c).isSome ∨ c = .unknownRequest ∨ c = .replay → 4 ≤ s.link.replies.length →
      exec c s = .next s) ∧
  (∀ (s : State) (q : Request) (rest : List Request) (payload : List Byte), s.link.requests = q :: rest →
      let reply : Reply := { kind := q.kind + 0x80, tag := q.tag, payload := payload }
      let t := s.finish q payload
      t = { s with link := t.link } ∧ t.link.requests = rest ∧ t.link.replies = s.link.replies ++ [reply] ∧
      t.link.lastReply = some { tag := q.tag, kind := q.kind, reply := reply } ∧
      (s.link.transmitter ≠ .idle → t.link.transmitter = s.link.transmitter ∧ t.link.notices = s.link.notices ∧
        t.link.repliesInRow = s.link.repliesInRow) ∧
      (s.link.transmitter = .idle → s.link.replies = [] → s.link.notices = [] →
        t.link.transmitter = .sendingReply ∧ t.link.repliesInRow = 0))

/-- R136: a head with the tag and kind of the stored record is answered with the stored reply and is not executed, whatever its
payload; the store stays. Any other head is not replayed. A link break and every reset leave the store empty.
That the row of the request's kind performs the replay too is the model's choice (log 16). -/
def Obligations.RepeatedRequestIsReplayed : Prop :=
  (∀ (c : Instr) (s : State) (q : Request) (rest : List Request) (stored : StoredReply), c = .replay ∨ rowServes c q →
    s.link.requests = q :: rest → s.link.replies.length < 4 → s.link.lastReply = some stored → stored.tag = q.tag →
    stored.kind = q.kind →
    ∃ t, exec c s = .next t ∧ t.link.requests = rest ∧ t.link.replies = s.link.replies ++ [stored.reply] ∧
      t.link.lastReply = some stored ∧
      t = { s with link := ({ s.link with requests := rest, replies := s.link.replies ++ [stored.reply] } : Link).arbitrate }) ∧
  (∀ (s : State) (q : Request), s.link.requests.head? = some q →
    (∀ stored, s.link.lastReply = some stored → stored.tag ≠ q.tag ∨ stored.kind ≠ q.kind) → exec .replay s = .next s) ∧
  (∀ (s t : State) (cause : ResetCause), (s.partReset cause).link.lastReply = none ∧
    (s.readiness = .ready → s.link.rxd ≠ .broken → exec .linkBreak s = .next t → t.link.lastReply = none))

/-- R134, R162: a KIND that is no request code is answered UNKNOWN, and a payload of the wrong length LENGTH; the reply carries the
status alone. A row whose request is not at the head does nothing (log 1). That each row of
STOP_INPUT and of SET_DRAIN answers a payload of the wrong length is the model's choice (log 3). -/
def Obligations.CommonChecksRefuse : Prop :=
  (∀ (s : State) (q : Request), s.link.requests.head? = some q → s.link.replies.length < 4 →
    (∀ stored, s.link.lastReply = some stored → stored.tag ≠ q.tag ∨ stored.kind ≠ q.kind) →
    (isRequestCode q.kind = false → exec .unknownRequest s = .next (s.finish q [0x01])) ∧
    (∀ (c : Instr) (k : ReqKind) (form : List Byte → Bool), requestRow c = some (k, form) → q.kind = k.code →
      q.payload.length ≠ k.payloadLength → exec c s = .next (s.finish q [0x02]))) ∧
  (∀ kind : Byte, isRequestCode kind = true ↔
    kind ∈ [0x01, 0x02, 0x03, 0x08, 0x09, 0x0A, 0x10, 0x11, 0x12, 0x13, 0x14, 0x15, 0x16, 0x18, 0x19, 0x1A, 0x1B, 0x20,
      0x21, 0x28, 0x30]) ∧
  (∀ (c : Instr) (s : State) (k : ReqKind) (form : List Byte → Bool), requestRow c = some (k, form) →
    (∀ q, s.link.requests.head? = some q → q.kind ≠ k.code) → exec c s = .next s)

/-- R140, R141: RESET is answered OK, empties the request queue and the notice set, and sets reset-pending; until the reset raises leave no trace. -/
def Obligations.ResetRequestSetsResetPending : Prop :=
  ∀ (s : State) (q : Request), s.ServesNext .reset q →
    ∃ t, exec .reset s = .next t ∧
      t = { s with link := { (s.finish q [0x00]).link with requests := [], notices := [], resetPending := true } } ∧
      t.link.replies = s.link.replies ++ [{ kind := 0x83, tag := q.tag, payload := [0x00] }] ∧
      ∀ n, t.link.raise n = t.link

/-! ### The reports -/

/-- R155: the reply to IDENTIFY carries the fixed facts of the part, the same at every execution, and nothing else changes. -/
def Obligations.IdentifyRepliesFixedFacts : Prop :=
  ∀ (s : State) (q : Request), s.ServesNext .identify q →
    exec .identify s = .next (s.finish q
      [0x00, 0x52, 0x4D, 0x54, 0x06, 0x03, 0x10, 0x00, 0x02, 0x00, 0x02, 0x30, 0x08, 0x02, 0x04, 0x04, 0xC0])

/-- R156: the reply to STATUS carries every item of the table, and nothing else changes. -/
def Obligations.StatusReplyCarriesEveryItem : Prop :=
  ∀ (s : State) (q : Request), s.ServesNext .status q →
    ∃ p, exec .status s = .next (s.finish q p) ∧ p.length = 38 ∧ byteAt p 0 = 0x00 ∧
      byteAt p 1 = (match s.framer.state with | .stopped => 0 | .waiting => 1 | .inFrame => 2 | .skipping => 3) ∧
      byteAt p 2 = (if s.framer.stopPending then 1 else 0) ∧ byteAt p 3 = (if s.table.commitPending then 1 else 0) ∧
      nat4 p 4 = s.framer.frameNumber.toNat ∧ nat2 p 8 = s.framer.width % 65536 ∧ nat2 p 10 = s.framer.height % 65536 ∧
      nat1 p 12 = (match s.framer.depth with | .bits8 => 8 | .bits10 => 10 | .bits12 => 12) ∧
      nat2 p 13 = s.framer.errors.lineLong.toNat ∧ nat2 p 15 = s.framer.errors.lineShort.toNat ∧
      nat2 p 17 = s.framer.errors.frameLong.toNat ∧ nat2 p 19 = s.framer.errors.frameShort.toNat ∧
      nat2 p 21 = s.framer.errors.strayLine.toNat ∧
      (let code (x : DrainState) : Byte :=
        match x with | .disabled => 0 | .idle => 1 | .streaming => 2 | .stopping => 3 | .fault => 4
       byteAt p 23 = code s.drainA.state ∧ byteAt p 24 = code s.drainB.state) ∧
      nat2 p 25 = s.link.receiveDiscards.toNat ∧ nat2 p 27 = s.link.overruns.toNat ∧ nat1 p 29 = s.link.rate.toNat ∧
      (∀ k : Fin 7, byteAt p (30 + k.val) = (match s.link.mask[k] with | .enabled => 0 | .masked => 1)) ∧
      nat1 p 37 = s.link.notices.length % 256

/-- R157, R124: the reply to REGION_STATUS carries the runtime, the held and unmet counts, link-served, the fetched seq and the list,
oldest first; the reply to DRAIN_STATUS carries the drain's state, head and settings; a bad id or drain is refused; nothing else
changes. -/
def Obligations.RegionAndDrainStatusReplies : Prop :=
  (∀ (s : State) (q : Request), s.ServesNext .regionStatus q →
      (16 ≤ nat1 q.payload 0 → exec .regionStatus s = .next (s.finish q [0x03, 0x00])) ∧
      (∀ r : RegionId, nat1 q.payload 0 = r.val →
        ∃ p, exec .regionStatus s = .next (s.finish q p) ∧ p.length = 21 + 4 * (s.captureList r).length ∧
          byteAt p 0 = 0x00 ∧ nat1 p 1 = r.val ∧
          byteAt p 2 = (match (s.entry r).run with | .unused => 0 | .armed => 1 | .done => 2 | .halted => 3) ∧
          nat1 p 3 = (s.entry r).phase % 256 ∧ nat2 p 4 = (s.entry r).remaining.toNat ∧
          nat2 p 6 = (s.entry r).completed.toNat ∧ nat2 p 8 = (s.entry r).nextSeq.toNat ∧
          nat2 p 10 = (s.entry r).lost.toNat ∧ nat2 p 12 = s.held r % 65536 ∧ nat2 p 14 = s.unmet r % 65536 ∧
          byteAt p 16 = (if s.linkServed r then 1 else 0) ∧
          (match s.fetched r with
           | none => byteAt p 17 = 0 ∧ nat2 p 18 = 0
           | some c => byteAt p 17 = 1 ∧ nat2 p 18 = c.seq.toNat) ∧
          nat1 p 20 = (s.captureList r).length % 256 ∧
          ∀ i c, (s.captureList r)[i]? = some c →
            nat2 p (21 + 4 * i) = c.seq.toNat ∧
            byteAt p (23 + 4 * i) = (match c.route with | .link => 0 | .drain .a => 1 | .drain .b => 2) ∧
            (c.fill = .filling → c.delivery = .waiting → byteAt p (24 + 4 * i) = 0) ∧
            (c.fill = .filling → c.delivery = .active → byteAt p (24 + 4 * i) = 1) ∧
            (c.fill = .complete → c.delivery = .waiting → byteAt p (24 + 4 * i) = 2) ∧
            (c.fill = .complete → c.delivery = .active → byteAt p (24 + 4 * i) = 3) ∧
            (c.fill = .abandoned → c.delivery = .active → byteAt p (24 + 4 * i) = 4))) ∧
  (∀ (s : State) (q : Request), s.ServesNext .drainStatus q →
      (byteAt q.payload 0 ≠ 0 → byteAt q.payload 0 ≠ 1 → exec .drainStatus s = .next (s.finish q [0x03, 0x00])) ∧
      (∀ d : DrainId, byteAt q.payload 0 = (match d with | .a => 0 | .b => 1) →
        ∃ p, exec .drainStatus s = .next (s.finish q p) ∧ p.length = 23 ∧ byteAt p 0 = 0x00 ∧
          byteAt p 1 = byteAt q.payload 0 ∧
          byteAt p 2 = (match (s.drain d).state with
            | .disabled => 0 | .idle => 1 | .streaming => 2 | .stopping => 3 | .fault => 4) ∧
          nat1 p 3 = (s.drain d).queue.length % 256 ∧
          (∀ c i, ((s.drain d).state = .streaming ∨ (s.drain d).state = .stopping) → s.head d = some c →
            byteAt p 4 = 1 ∧ nat1 p 5 = c.region.val ∧ nat2 p 6 = c.seq.toNat ∧
            byteAt p 8 = (match c.fill with | .filling => 0 | .complete => 1 | .abandoned => 2) ∧
            ((s.drain d).position = some (.header i) → byteAt p 9 = 0 ∧ nat4 p 10 = i % 4294967296) ∧
            ((s.drain d).position = some (.data i) → byteAt p 9 = 1 ∧ nat4 p 10 = i % 4294967296) ∧
            ((s.drain d).position = some (.trailer i) → byteAt p 9 = 2 ∧ nat4 p 10 = i % 4294967296) ∧
            nat4 p 14 = (s.drain d).wordsTaken % 4294967296) ∧
          ((s.drain d).state ≠ .streaming → (s.drain d).state ≠ .stopping → ∀ i, 4 ≤ i → i < 18 → byteAt p i = 0) ∧
          byteAt p 18 = (match (s.drain d).rq with | .high => 1 | .low => 0) ∧ nat1 p 19 = (s.drain d).grain % 256 ∧
          nat1 p 20 = (s.drain d).timeout % 256 ∧ nat2 p 21 = (s.drain d).stray.toNat))

/-- R81, R67, R84: the reply to POOL_STATUS; the 16 held counts sum to 512 less the free blocks; nothing else changes. -/
def Obligations.PoolStatusCountsSumTo512 : Prop :=
  ∀ (s : State) (q : Request), s.ServesNext .poolStatus q → s.PoolLaw →
    ∃ p, exec .poolStatus s = .next (s.finish q p) ∧ p.length = 38 ∧ byteAt p 0 = 0x00 ∧
      nat2 p 1 = s.freeCount ∧ nat1 p 3 = s.freeRecords.length ∧ nat2 p 4 = s.unmetTotal % 65536 ∧
      (∀ r : RegionId, nat2 p (6 + 2 * r.val) = s.held r) ∧
      (allRegions.map (fun r => nat2 p (6 + 2 * r.val))).sum + nat2 p 1 = 512

/-! ### Input control -/

/-- R35: SET_INPUT checks the state, then the fields in index order, then the fit of every active entry that is not UNUSED in
ascending id; when all pass, the geometry takes the new values. -/
def Obligations.SetInputChecksStateFieldsFit : Prop :=
  ∀ (s : State) (q : Request), s.ServesNext .setInput q →
    let w := nat2 q.payload 0
    let h := nat2 q.payload 2
    let used (r : RegionId) (d : RegionDef) : Prop := (s.entry r).definition = some d ∧ (s.entry r).run ≠ .unused
    let inside (d : RegionDef) : Prop := d.x0 + d.width ≤ w ∧ d.y0 + d.height ≤ h
    let small (d : RegionDef) (p : Nat) : Prop := d.route = .link → ceilDiv (d.outW * d.outH * p) 512 ≤ d.limit
    let lowerFit (r : RegionId) (p : Nat) : Prop := ∀ r' d, r' < r → used r' d → inside d ∧ small d p
    (s.framer.state ≠ .stopped → exec .setInput s = .next (s.finish q [0x04])) ∧
    (s.framer.state = .stopped →
      (w < 16 ∨ 4096 < w → exec .setInput s = .next (s.finish q [0x03, 0x00])) ∧
      (16 ≤ w → w ≤ 4096 → h < 1 ∨ 4096 < h → exec .setInput s = .next (s.finish q [0x03, 0x01])) ∧
      (16 ≤ w → w ≤ 4096 → 1 ≤ h → h ≤ 4096 →
        (nat1 q.payload 4 ≠ 8 → nat1 q.payload 4 ≠ 10 → nat1 q.payload 4 ≠ 12 →
          exec .setInput s = .next (s.finish q [0x03, 0x02])) ∧
        (∀ depth : Depth, nat1 q.payload 4 = (match depth with | .bits8 => 8 | .bits10 => 10 | .bits12 => 12) →
          let p := match depth with | .bits8 => 1 | .bits10 => 2 | .bits12 => 2
          (∀ r d, used r d → lowerFit r p → ¬inside d →
            exec .setInput s = .next (s.finish q [0x0A, BitVec.ofNat 8 r.val, 0x01])) ∧
          (∀ r d, used r d → lowerFit r p → inside d → ¬small d p →
            exec .setInput s = .next (s.finish q [0x0A, BitVec.ofNat 8 r.val, 0x02])) ∧
          ((∀ r d, used r d → inside d ∧ small d p) →
            exec .setInput s = .next
              (({ s with framer := { s.framer with width := w, height := h, depth := depth } } : State).finish q [0x00])))))

/-- R36, R37, R38: START_INPUT is accepted in STOPPED alone; STOP_INPUT in both forms, from each Framer state, with the state and
stop-pending after the request in its reply; another when value is refused, by either row (the model's choice, log 3). -/
def Obligations.StartAndStopInputByState : Prop :=
  (∀ (s : State) (q : Request), s.ServesNext .startInput q →
      (s.framer.state = .stopped →
        exec .startInput s = .next (({ s with framer := { s.framer with state := .waiting } } : State).finish q [0x00])) ∧
      (s.framer.state ≠ .stopped → exec .startInput s = .next (s.finish q [0x04]))) ∧
  (∀ (s : State) (q : Request), s.ServesNext .stopInput q →
      let flag : Byte := if s.framer.stopPending then 1 else 0
      let pendingStop : State := { s with framer := { s.framer with stopPending := true } }
      (q.payload = [0x00] →
        (s.framer.state = .stopped → exec .stopInputNow s = .next (s.finish q [0x00, 0x00, flag])) ∧
        (s.framer.state = .waiting ∨ s.framer.state = .skipping →
          exec .stopInputNow s = .next (s.enterStopped.finish q [0x00, 0x00, 0x00])) ∧
        (s.framer.state = .inFrame →
          exec .stopInputNow s = .next ((s.abandonAll .inputStopped).enterStopped.finish q [0x00, 0x00, 0x00]))) ∧
      (q.payload = [0x01] →
        (s.framer.state = .stopped → exec .stopInputFrameEnd s = .next (s.finish q [0x00, 0x00, flag])) ∧
        (s.framer.state = .waiting →
          exec .stopInputFrameEnd s = .next (s.enterStopped.finish q [0x00, 0x00, 0x00])) ∧
        (s.framer.state = .inFrame → exec .stopInputFrameEnd s = .next (pendingStop.finish q [0x00, 0x02, 0x01])) ∧
        (s.framer.state = .skipping → exec .stopInputFrameEnd s = .next (pendingStop.finish q [0x00, 0x03, 0x01]))) ∧
      (q.payload ≠ [0x00] → q.payload ≠ [0x01] →
        exec .stopInputNow s = .next (s.finish q [0x03, 0x00]) ∧
        exec .stopInputFrameEnd s = .next (s.finish q [0x03, 0x00])))

/-! ### The Region Table -/

/-- R9, R10, R11, R161: DEFINE_REGION and CLEAR_REGION are refused while a commit is pending. A payload whose fields are in range gives
the staged entry of its id the definition that it carries, whole; the count bytes of a CONTINUOUS definition and the label bytes of an
absent label are not checked and not kept. Else the first field that fails is named. A definition in range, laid out as 9.3 says, is
such a payload. CLEAR_REGION makes the staged entry UNUSED. -/
def Obligations.StagedEntryDefinedOrCleared : Prop :=
  let oneOf (n : Nat) (values : List Nat) : Bool := decide (n ∈ values)
  let within (low n high : Nat) : Bool := decide (low ≤ n) && decide (n ≤ high)
  let checks (p : List Byte) : List Bool :=
    [within 0 (nat1 p 0) 15, within 0 (nat2 p 1) 4095, within 0 (nat2 p 3) 4095, within 1 (nat2 p 5) 4096,
     within 1 (nat2 p 7) 4096, oneOf (nat1 p 9) [1, 2, 4, 8], oneOf (nat1 p 10) [1, 2, 4, 8], within 1 (nat1 p 11) 64,
     oneOf (nat1 p 12) [0, 1], decide (nat1 p 12 ≠ 1) || within 1 (nat2 p 13) 65535, oneOf (nat1 p 15) [0, 1, 2],
     within 1 (nat1 p 16) 8, within 0 (nat2 p 17) 512, within 1 (nat2 p 19) 512 && decide (nat2 p 17 ≤ nat2 p 19),
     oneOf (nat1 p 21) [0, 1], oneOf (nat1 p 22) [0, 1], true]
  let carried (p : List Byte) : RegionDef :=
    { x0 := nat2 p 1, y0 := nat2 p 3, width := nat2 p 5, height := nat2 p 7, colStep := nat1 p 9, rowStep := nat1 p 10
      stride := nat1 p 11
      mode := if nat1 p 12 = 1 then .count (BitVec.ofNat 16 (nat2 p 13)) else .continuous
      route := if nat1 p 15 = 0 then .link else if nat1 p 15 = 1 then .drain .a else .drain .b
      depth := nat1 p 16, reserve := nat2 p 17, limit := nat2 p 19
      policy := if nat1 p 21 = 0 then .keepOld else .keepNew
      label := if nat1 p 22 = 1 then some (BitVec.ofNat 16 (nat2 p 23)) else none }
  (∀ (s : State) (q : Request), s.ServesNext .defineRegion q →
      (s.table.commitPending = true → exec .defineRegion s = .next (s.finish q [0x05])) ∧
      (s.table.commitPending = false →
        (∀ (r : RegionId) (d : RegionDef), q.payload = BitVec.ofNat 8 r.val :: putDefinition d → d.inRange →
          exec .defineRegion s = .next
            (({ s with table := { s.table with staged := s.table.staged.set r (some d) } } : State).finish q [0x00])) ∧
        (∀ r : RegionId, nat1 q.payload 0 = r.val → (∀ ok ∈ checks q.payload, ok = true) →
          exec .defineRegion s = .next
            (({ s with table := { s.table with staged := s.table.staged.set r (some (carried q.payload)) } } : State).finish q
              [0x00])) ∧
        (∀ i : Nat, (∀ j, j < i → (checks q.payload)[j]? = some true) → (checks q.payload)[i]? = some false →
          exec .defineRegion s = .next (s.finish q [0x03, BitVec.ofNat 8 i])))) ∧
  (∀ (s : State) (q : Request), s.ServesNext .clearRegion q →
      (s.table.commitPending = true → exec .clearRegion s = .next (s.finish q [0x05])) ∧
      (s.table.commitPending = false →
        (16 ≤ nat1 q.payload 0 → exec .clearRegion s = .next (s.finish q [0x03, 0x00])) ∧
        (∀ r : RegionId, nat1 q.payload 0 = r.val →
          exec .clearRegion s = .next
            (({ s with table := { s.table with staged := s.table.staged.set r none } } : State).finish q [0x00]))))

/-- R12: GET_REGION reads either copy of an entry, with zeros for an entry without a definition and for the runtime under STAGED,
and changes no state. -/
def Obligations.GetRegionReadsEitherCopy : Prop :=
  ∀ (s : State) (q : Request), s.ServesNext .getRegion q →
    let pending : Byte := if s.table.commitPending then 1 else 0
    let entryBytes (d : Option RegionDef) : List Byte :=
      match d with
      | none => List.replicate 24 0
      | some d => putDefinition d
    (16 ≤ nat1 q.payload 0 → exec .getRegion s = .next (s.finish q [0x03, 0x00])) ∧
    (∀ r : RegionId, nat1 q.payload 0 = r.val →
      (byteAt q.payload 1 ≠ 0 → byteAt q.payload 1 ≠ 1 → exec .getRegion s = .next (s.finish q [0x03, 0x01])) ∧
      (byteAt q.payload 1 = 0 →
        exec .getRegion s = .next (s.finish q
          ([0x00, BitVec.ofNat 8 r.val, 0x00, if s.table.staged[r].isSome then 1 else 0, pending] ++
            entryBytes s.table.staged[r] ++ List.replicate 9 0))) ∧
      (byteAt q.payload 1 = 1 →
        let e := s.entry r
        exec .getRegion s = .next (s.finish q
          ([0x00, BitVec.ofNat 8 r.val, 0x01,
              match e.run with | .unused => 0 | .armed => 1 | .done => 2 | .halted => 3, pending] ++
            entryBytes e.definition ++ put1 e.phase ++ put2 e.remaining.toNat ++ put2 e.completed.toNat ++
            put2 e.nextSeq.toNat ++ put2 e.lost.toNat))))

/-- R13, R14, R15, R20: COMMIT is refused while one is pending; validation names the first entry that fails and its first cause; an
accepted COMMIT is applied at once in STOPPED and is pending in every other state. CANCEL_COMMIT clears the flag and nothing else, or
is refused when the flag is clear. -/
def Obligations.CommitAndCancelCommit : Prop :=
  (∀ (s : State) (q : Request), s.ServesNext .commit q →
      let inside (d : RegionDef) : Prop := d.x0 + d.width ≤ s.framer.width ∧ d.y0 + d.height ≤ s.framer.height
      let small (d : RegionDef) : Prop :=
        d.route = .link → ceilDiv (d.outW * d.outH * s.framer.depth.bpp) 512 ≤ d.limit
      let reserves (r : RegionId) : Nat :=
        ((allRegions.filter (fun x => x ≤ r)).map (fun x => (s.table.staged[x].map RegionDef.reserve).getD 0)).sum
      let passes (r : RegionId) (d : RegionDef) : Prop := inside d ∧ small d ∧ reserves r ≤ 512
      let lowerPass (r : RegionId) : Prop := ∀ r' d, r' < r → s.table.staged[r'] = some d → passes r' d
      (s.table.commitPending = true → exec .commit s = .next (s.finish q [0x05])) ∧
      (s.table.commitPending = false →
        (∀ r d, s.table.staged[r] = some d → lowerPass r →
          (¬inside d → exec .commit s = .next (s.finish q [0x0A, BitVec.ofNat 8 r.val, 0x01])) ∧
          (inside d → ¬small d → exec .commit s = .next (s.finish q [0x0A, BitVec.ofNat 8 r.val, 0x02])) ∧
          (inside d → small d → 512 < reserves r →
            exec .commit s = .next (s.finish q [0x0A, BitVec.ofNat 8 r.val, 0x03]))) ∧
        ((∀ r d, s.table.staged[r] = some d → passes r d) →
          (s.framer.state = .stopped → exec .commit s = .next (s.applyCommit.finish q [0x00, 0x00])) ∧
          (s.framer.state ≠ .stopped →
            exec .commit s = .next
              (({ s with table := { s.table with commitPending := true } } : State).finish q [0x00, 0x01]))))) ∧
  (∀ (s : State) (q : Request), s.ServesNext .cancelCommit q →
      (s.table.commitPending = true →
        exec .cancelCommit s = .next
          (({ s with table := { s.table with commitPending := false } } : State).finish q [0x00])) ∧
      (s.table.commitPending = false → exec .cancelCommit s = .next (s.finish q [0x04])))

/-- R21: HALT_REGION makes an ARMED region HALTED and abandons its FILLING capture with reason HALTED; it is refused for a bad id
and in every other run state. -/
def Obligations.HaltRegionAbandonsFillingCapture : Prop :=
  ∀ (s : State) (q : Request), s.ServesNext .haltRegion q →
    (16 ≤ nat1 q.payload 0 → exec .haltRegion s = .next (s.finish q [0x03, 0x00])) ∧
    (∀ r : RegionId, nat1 q.payload 0 = r.val →
      let halted := s.setEntry r { s.entry r with run := .halted }
      ((s.entry r).run ≠ .armed → exec .haltRegion s = .next (s.finish q [0x04])) ∧
      ((s.entry r).run = .armed → s.openCapture r = none → exec .haltRegion s = .next (halted.finish q [0x00])) ∧
      (∀ c, (s.entry r).run = .armed → s.openCapture r = some c →
        exec .haltRegion s = .next ((halted.abandon c .halted).finish q [0x00])))

/-! ### Link Delivery -/

/-- R86, R88, R89, R90: FETCH of a link-served region answers the fetched capture again, or makes the oldest COMPLETE/WAITING link
capture ACTIVE, or gives EMPTY; it is refused with ROUTE for a region that is not link-served. That the
VALUE reply names field 0, as R87 and R162 say against R90, is the model's choice (log 22). -/
def Obligations.FetchTakesOldestWaitingLinkCapture : Prop :=
  ∀ (s : State) (q : Request), s.ServesNext .fetch q →
    (16 ≤ nat1 q.payload 0 → exec .fetch s = .next (s.finish q [0x03, 0x00])) ∧
    (∀ r : RegionId, nat1 q.payload 0 = r.val →
      let served : Prop :=
        (∃ d, (s.entry r).definition = some d ∧ d.route = .link ∧ (s.entry r).run ≠ .unused) ∨
        ∃ c ∈ s.captures, c.region = r ∧ c.route = .link
      let waiting := s.captures.filter (fun c =>
        c.region = r && c.route = .link && (c.fill = .complete && c.delivery = .waiting))
      let fetched := s.captures.filter (fun c => c.region = r && c.route = .link && c.delivery = .active)
      let describe (c : Capture) (others : Nat) : List Byte :=
        0x00 :: put1 c.region.val ++ put2 c.seq.toNat ++ put4 c.frame.toNat ++ put2 c.outW ++ put2 c.outH ++ put1 c.bpp ++
          (match c.label with | none => [0x00, 0x00, 0x00] | some l => 0x01 :: put2 l.toNat) ++
          put4 c.bytesExpected ++ put1 others
      (¬served → exec .fetch s = .next (s.finish q [0x09])) ∧
      (s.RecordsDistinct → ∀ c rest, fetched = c :: rest →
        exec .fetch s = .next (s.finish q (describe c (waiting.filter (fun x => x.slot ≠ c.slot)).length))) ∧
      (served → fetched = [] → waiting = [] → exec .fetch s = .next (s.finish q [0x06])) ∧
      (s.RecordsDistinct → ∀ c rest, fetched = [] → waiting = c :: rest →
        exec .fetch s = .next
          (({ s with captures := s.captures.map (fun x =>
              if x.slot = c.slot then { x with delivery := .active } else x) } : State).finish q
            (describe c rest.length))))

/-- R87, R91: READ answers the bytes of the fetched capture from offset to offset + length - 1 and changes no state; its refusals in
their order. -/
def Obligations.ReadAnswersBytesOfFetchedCapture : Prop :=
  ∀ (s : State) (q : Request), s.ServesNext .read q →
    let seq := nat2 q.payload 1
    let offset := nat4 q.payload 3
    let length := nat1 q.payload 7
    (16 ≤ nat1 q.payload 0 → exec .read s = .next (s.finish q [0x03, 0x00])) ∧
    (∀ r : RegionId, nat1 q.payload 0 = r.val →
      (length < 1 ∨ 192 < length → exec .read s = .next (s.finish q [0x03, 0x03])) ∧
      (1 ≤ length → length ≤ 192 →
        (s.linkServed r = false → exec .read s = .next (s.finish q [0x09])) ∧
        (s.linkServed r = true → s.fetched r = none → exec .read s = .next (s.finish q [0x08, 0x00, 0x00, 0x00])) ∧
        (∀ c, s.fetched r = some c →
          (c.seq.toNat ≠ seq → exec .read s = .next (s.finish q ([0x08, 0x01] ++ put2 c.seq.toNat))) ∧
          (c.seq.toNat = seq → c.bytesExpected < offset + length →
            exec .read s = .next (s.finish q (0x07 :: put4 c.bytesExpected))) ∧
          (c.seq.toNat = seq → offset + length ≤ c.bytesExpected →
            exec .read s = .next (s.finish q
              (0x00 :: (List.range length).map (fun i => s.captureByte c (offset + i))))))))

/-- R87, R93, R94, R95, R149: RELEASE of the fetched capture by its seq frees it and nothing else; its refusals in their order. FLUSH
discards every COMPLETE/WAITING capture of the region, oldest first, each a loss with reason DISCARDED, and answers their number; every
other capture stays. -/
def Obligations.ReleaseAndFlushFreeCaptures : Prop :=
  (∀ (s : State) (q : Request), s.ServesNext .release q →
      (16 ≤ nat1 q.payload 0 → exec .release s = .next (s.finish q [0x03, 0x00])) ∧
      (∀ r : RegionId, nat1 q.payload 0 = r.val →
        (s.linkServed r = false → exec .release s = .next (s.finish q [0x09])) ∧
        (s.linkServed r = true → s.fetched r = none → exec .release s = .next (s.finish q [0x08, 0x00, 0x00, 0x00])) ∧
        (∀ c, s.fetched r = some c →
          (c.seq.toNat ≠ nat2 q.payload 1 →
            exec .release s = .next (s.finish q ([0x08, 0x01] ++ put2 c.seq.toNat))) ∧
          (c.seq.toNat = nat2 q.payload 1 →
            exec .release s = .next
              (({ s with
                  memory := { s.memory with freePool := s.memory.freePool ++ c.chain }
                  captures := s.captures.filter (fun x => x.slot ≠ c.slot)
                  drainA := { s.drainA with queue := s.drainA.queue.filter (fun n => n ≠ c.slot) }
                  drainB := { s.drainB with queue := s.drainB.queue.filter (fun n => n ≠ c.slot) } } : State).finish q
                [0x00]))))) ∧
  (∀ (s : State) (q : Request), s.ServesNext .flush q →
      (16 ≤ nat1 q.payload 0 → exec .flush s = .next (s.finish q [0x03, 0x00])) ∧
      (∀ r : RegionId, nat1 q.payload 0 = r.val →
        let victims := s.captures.filter (fun c => c.region = r && (c.fill = .complete && c.delivery = .waiting))
        let t := victims.foldl State.discard s
        exec .flush s = .next (t.finish q [0x00, BitVec.ofNat 8 victims.length]) ∧
        (s.RecordsDistinct →
          t.captures = s.captures.filter (fun c => !(c.region = r && (c.fill = .complete && c.delivery = .waiting))) ∧
          t.freeCount = s.freeCount + (victims.map (fun c => c.chain.length)).sum ∧
          (t.entry r).lost = (satInc^[victims.length]) (s.entry r).lost)))

/-! ### The drain ports -/

/-- R54, R107, R109, R110, R111, R112, R120: the available words of a head, the condition under which DxRQ rises or stays high, the
burst and the timer; a promotion makes the head ACTIVE at header word 0 and evaluates them. A drain capture joins the end of its drain's
queue at its first byte, and is promoted on an IDLE drain; a write that completes a data word of the ACTIVE head is evaluated when DxRQ
is low; no other write reaches a drain. -/
def Obligations.BurstAndPromotionOfDrainHead : Prop :=
  ((∀ (s : State) (d : DrainId) (c : Capture) (p : Position), s.head d = some c → (s.drain d).position = some p →
      ((s.drain d).state = .streaming ∨ (s.drain d).state = .stopping) →
      let words := ceilDiv c.bytesExpected 2
      let available : Nat :=
        match c.fill, p with
        | .filling, .header i => (8 - i) + c.bytesWritten / 2
        | .filling, .data k => c.bytesWritten / 2 - k
        | .filling, .trailer _ => 0
        | .complete, .header i => (8 - i) + words + 2
        | .complete, .data k => (words - k) + 2
        | .complete, .trailer j => 2 - j
        | .abandoned, .trailer j => 2 - j
        | .abandoned, _ => 0
      let holds : Prop := (s.drain d).grain ≤ available ∨ (c.fill ≠ .filling ∧ 1 ≤ available)
      (holds → s.evaluateBurst d = s.setDrain d { s.drain d with
        rq := .high, burst := min (s.drain d).grain available
        timer := if (s.drain d).rq = .high then (s.drain d).timer
          else if (s.drain d).timeout = 0 then .stopped else .running }) ∧
      (¬holds → s.evaluateBurst d = s.setDrain d { s.drain d with rq := .low, burst := 0, timer := .stopped })) ∧
    (∀ (s : State) (d : DrainId) (slot : Nat) (rest : List Nat), (s.drain d).queue = slot :: rest →
      s.promote d =
        (({ s with captures := s.captures.map (fun x =>
            if x.slot = slot then { x with delivery := .active } else x) } : State).setDrain d
          { s.drain d with state := .streaming, position := some (.header 0), wordsTaken := 0 }).evaluateBurst d)) ∧
  (∀ (s : State) (c : Capture),
      (c.route = .link → s.tellDrainOfWrite c = s) ∧
      (∀ d : DrainId, c.route = .drain d →
        let joined := s.setDrain d { s.drain d with queue := (s.drain d).queue ++ [c.slot] }
        (c.bytesWritten = 0 → (s.drain d).state = .idle → s.tellDrainOfWrite c = joined.promote d) ∧
        (c.bytesWritten = 0 → (s.drain d).state ≠ .idle → s.tellDrainOfWrite c = joined) ∧
        (c.bytesWritten ≠ 0 → c.delivery = .active → (s.drain d).rq = .low →
          c.bytesWritten / 2 < (c.bytesWritten + c.bpp) / 2 → s.tellDrainOfWrite c = s.evaluateBurst d) ∧
        (c.bytesWritten ≠ 0 →
          c.delivery ≠ .active ∨ (s.drain d).rq = .high ∨ (c.bytesWritten + c.bpp) / 2 ≤ c.bytesWritten / 2 →
          s.tellDrainOfWrite c = s)))

/-- R104, R108, R164: the word presented at each head position, presented exactly while DxRQ is high, with DxSOC on header word 0
and DxEOC on trailer word 1. -/
def Obligations.PresentedWordFollowsLayout : Prop :=
  ∀ (s : State) (d : DrainId) (c : Capture) (p : Position), s.head d = some c → (s.drain d).position = some p →
    ((s.drain d).rq = .low → s.presentedWord d = none ∧ s.startOfCapture d = false ∧ s.endOfCapture d = false) ∧
    ((s.drain d).rq = .high →
      (s.startOfCapture d = true ↔ p = .header 0) ∧ (s.endOfCapture d = true ↔ p = .trailer 1) ∧
      (p = .header 0 → s.presentedWord d = some 0x5AC3) ∧
      (p = .header 1 →
        s.presentedWord d = some (BitVec.ofNat 16 (c.region.val + 16 * c.bpp + (if c.label.isSome then 64 else 0)))) ∧
      (p = .header 2 → s.presentedWord d = some c.seq) ∧
      (p = .header 3 → s.presentedWord d = some (BitVec.ofNat 16 (c.frame.toNat % 65536))) ∧
      (p = .header 4 → s.presentedWord d = some (BitVec.ofNat 16 (c.frame.toNat / 65536))) ∧
      (p = .header 5 → s.presentedWord d = some (BitVec.ofNat 16 c.outW)) ∧
      (p = .header 6 → s.presentedWord d = some (BitVec.ofNat 16 c.outH)) ∧
      (p = .header 7 → s.presentedWord d = some (match c.label with | some l => l | none => 0)) ∧
      (∀ k, p = .data k →
        (2 * k + 1 < c.bytesExpected →
          s.presentedWord d = some (s.captureByte c (2 * k + 1) ++ s.captureByte c (2 * k))) ∧
        (c.bytesExpected ≤ 2 * k + 1 → s.presentedWord d = some ((0 : Byte) ++ s.captureByte c (2 * k)))) ∧
      (p = .trailer 0 → c.abandonReason = none → s.presentedWord d = some 0) ∧
      (∀ reason, p = .trailer 0 → c.abandonReason = some reason →
        s.presentedWord d = some (match reason with
          | .depth => 0x01 | .noRecord => 0x02 | .noBlocks => 0x03 | .discarded => 0x04 | .lineError => 0x05
          | .frameError => 0x06 | .shortFrame => 0x07 | .inputStopped => 0x08 | .halted => 0x09 | .drainAbort => 0x0A
          | .drainStall => 0x0B)) ∧
      (p = .trailer 1 → s.presentedWord d = some (BitVec.ofNat 16 (s.drain d).wordsTaken)))

/-- R104, R111, R113, R114, R118, R120: a take with DxRQ high accepts the presented word: the position moves on, the burst falls by 1,
the timer restarts; a data word counts in bytes_sent and frees the block it ends; a burst at its end is evaluated afresh. The take of
trailer word 1 frees the head; then a STREAMING drain promotes the next entry or goes IDLE, and a STOPPING drain goes DISABLED with
its entries WAITING; no loss is charged. -/
def Obligations.TakeAcceptsPresentedWord : Prop :=
  (∀ (s : State) (d : DrainId) (c : Capture) (p : Position), (s.drain d).rq = .high → s.head d = some c →
      (s.drain d).position = some p →
      let words := ceilDiv c.bytesExpected 2
      let moved (u : State) (next : Position) (taken : Nat) : State := u.setDrain d { s.drain d with
        position := some next, burst := (s.drain d).burst - 1, wordsTaken := taken
        timer := if (s.drain d).timeout = 0 then .stopped else .running }
      let answer (u : State) : State := if (s.drain d).burst ≤ 1 then u.evaluateBurst d else u
      let sent (k : Nat) : State :=
        if (k + 1) % 256 = 0 ∨ k + 1 = words then
          { s with
            memory := { s.memory with freePool := s.memory.freePool ++ c.chain.take 1 }
            captures := s.captures.map (fun x => if x.slot = c.slot then
              { x with bytesSent := min (2 * (k + 1)) x.bytesExpected, chain := x.chain.drop 1 } else x) }
        else
          { s with captures := s.captures.map (fun x => if x.slot = c.slot then
              { x with bytesSent := min (2 * (k + 1)) x.bytesExpected } else x) }
      (∀ i, p = .header i → i < 7 →
        exec (.take d) s = .next (answer (moved s (.header (i + 1)) (s.drain d).wordsTaken))) ∧
      (p = .header 7 → exec (.take d) s = .next (answer (moved s (.data 0) (s.drain d).wordsTaken))) ∧
      (∀ k, p = .data k → k + 1 < words →
        exec (.take d) s = .next (answer (moved (sent k) (.data (k + 1)) ((s.drain d).wordsTaken + 1)))) ∧
      (∀ k, p = .data k → k + 1 = words →
        exec (.take d) s = .next (answer (moved (sent k) (.trailer 0) ((s.drain d).wordsTaken + 1)))) ∧
      (p = .trailer 0 → exec (.take d) s = .next (answer (moved s (.trailer 1) (s.drain d).wordsTaken)))) ∧
  (∀ (s : State) (d : DrainId) (c : Capture), (s.drain d).rq = .high → s.head d = some c →
      (s.drain d).position = some (.trailer 1) →
      let freed := s.freeCapture c
      let left := (s.drain d).queue.filter (fun n => n ≠ c.slot)
      let rest (state : DrainState) : State := freed.setDrain d { s.drain d with
        state := state, queue := left, timer := .stopped, burst := 0, position := none, wordsTaken := 0, rq := .low }
      ((s.drain d).state = .stopping → exec (.take d) s = .next (rest .disabled)) ∧
      ((s.drain d).state = .streaming → left = [] → exec (.take d) s = .next (rest .idle)) ∧
      ((s.drain d).state = .streaming → left ≠ [] →
        exec (.take d) s = .next ((freed.setDrain d { s.drain d with
          queue := left, burst := (s.drain d).burst - 1
          timer := if (s.drain d).timeout = 0 then .stopped else .running }).promote d)))

/-- R105: a take while DxRQ is low is counted as stray, in every drain state, and changes nothing else; resets clear the count, and
DRAIN_STATUS reports it. -/
def Obligations.StrayTakeIsCountedOnly : Prop :=
  (∀ (s : State) (d : DrainId), (s.drain d).rq = .low →
    exec (.take d) s = .next (s.setDrain d { s.drain d with
      stray := if (s.drain d).stray = 65535 then 65535 else (s.drain d).stray + 1 })) ∧
  (∀ (s : State) (d : DrainId) (cause : ResetCause), ((s.partReset cause).drain d).stray = 0) ∧
  (∀ (s : State) (d : DrainId), nat2 (s.drainStatusItems d) 20 = (s.drain d).stray.toNat)

/-- R117, R118, R119, R59: SET_DRAIN checks its fields in index order for every action. ENABLE sets grain and timeout in DISABLED,
FAULT and IDLE, and promotes the oldest entry or goes IDLE; it is refused in STREAMING and STOPPING. DISABLE and ABORT act by the
drain's state and apply neither; ABORT ends an ACTIVE head without a trailer and charges DRAIN_ABORT unless it was ABANDONED. That
each of the three rows refuses an unknown action is the model's choice (log 3). -/
def Obligations.SetDrainActionsByState : Prop :=
  (∀ (s : State) (q : Request), s.ServesNext .setDrain q →
      let grain := nat1 q.payload 2
      let timeout := nat1 q.payload 3
      let goodGrain : Prop := grain = 1 ∨ grain = 8 ∨ grain = 32 ∨ grain = 128
      (∀ c, (c = Instr.setDrainEnable ∨ c = .setDrainDisable ∨ c = .setDrainAbort) →
        (2 < nat1 q.payload 1 ∨
          nat1 q.payload 1 = (match c with | .setDrainEnable => 0 | .setDrainDisable => 1 | _ => 2)) →
        (1 < nat1 q.payload 0 → exec c s = .next (s.finish q [0x03, 0x00])) ∧
        (nat1 q.payload 0 ≤ 1 → 2 < nat1 q.payload 1 → exec c s = .next (s.finish q [0x03, 0x01])) ∧
        (nat1 q.payload 0 ≤ 1 → nat1 q.payload 1 ≤ 2 → ¬goodGrain → exec c s = .next (s.finish q [0x03, 0x02])) ∧
        (nat1 q.payload 0 ≤ 1 → nat1 q.payload 1 ≤ 2 → goodGrain → 250 < timeout →
          exec c s = .next (s.finish q [0x03, 0x03]))) ∧
      (∀ d : DrainId, nat1 q.payload 0 = (match d with | .a => 0 | .b => 1) → nat1 q.payload 1 = 0 → goodGrain →
        timeout ≤ 250 →
        let set : State := s.setDrain d { s.drain d with grain := grain, timeout := timeout }
        ((s.drain d).state = .disabled ∨ (s.drain d).state = .fault →
          ((s.drain d).queue = [] →
            exec .setDrainEnable s = .next
              ((s.setDrain d { s.drain d with grain := grain, timeout := timeout, state := .idle }).finish q [0x00, 0x01])) ∧
          ((s.drain d).queue ≠ [] → exec .setDrainEnable s = .next ((set.promote d).finish q [0x00, 0x02]))) ∧
        ((s.drain d).state = .idle → exec .setDrainEnable s = .next (set.finish q [0x00, 0x01])) ∧
        ((s.drain d).state = .streaming ∨ (s.drain d).state = .stopping →
          exec .setDrainEnable s = .next (s.finish q [0x04])))) ∧
  (∀ (s : State) (q : Request) (d : DrainId), s.ServesNext .setDrain q →
      nat1 q.payload 0 = (match d with | .a => 0 | .b => 1) →
      (nat1 q.payload 2 = 1 ∨ nat1 q.payload 2 = 8 ∨ nat1 q.payload 2 = 32 ∨ nat1 q.payload 2 = 128) →
      nat1 q.payload 3 ≤ 250 →
      let disabled := s.setDrain d { s.drain d with state := .disabled }
      (nat1 q.payload 1 = 1 →
        ((s.drain d).state = .streaming →
          exec .setDrainDisable s = .next ((s.setDrain d { s.drain d with state := .stopping }).finish q [0x00, 0x03])) ∧
        ((s.drain d).state = .idle ∨ (s.drain d).state = .fault →
          exec .setDrainDisable s = .next (disabled.finish q [0x00, 0x00])) ∧
        ((s.drain d).state = .stopping → exec .setDrainDisable s = .next (s.finish q [0x00, 0x03])) ∧
        ((s.drain d).state = .disabled → exec .setDrainDisable s = .next (s.finish q [0x00, 0x00]))) ∧
      (nat1 q.payload 1 = 2 →
        (∀ c, (s.drain d).state = .streaming ∨ (s.drain d).state = .stopping → s.head d = some c →
          let freed := s.freeCapture c
          let charged := if c.fill = .abandoned then freed else freed.chargeLoss c.region .drainAbort
          exec .setDrainAbort s = .next ((charged.setDrain d { s.drain d with
            state := .disabled, queue := (s.drain d).queue.filter (fun n => n ≠ c.slot), timer := .stopped, burst := 0
            position := none, wordsTaken := 0, rq := .low }).finish q [0x00, 0x00])) ∧
        ((s.drain d).state = .idle ∨ (s.drain d).state = .fault →
          exec .setDrainAbort s = .next (disabled.finish q [0x00, 0x00])) ∧
        ((s.drain d).state = .disabled → exec .setDrainAbort s = .next (s.finish q [0x00, 0x00]))))

/-- R121, R59, R125: the expiry of a running stall timer puts the drain in FAULT, ends its head without a trailer, charges DRAIN_STALL
unless it was ABANDONED, and then raises DRAIN. With no timer running there is no expiry (log 1). -/
def Obligations.StallExpiryFaultsDrain : Prop :=
  ∀ (s : State) (d : DrainId),
    ((s.drain d).timer = .stopped → exec (.stallTimerExpiry d) s = .next s) ∧
    (∀ c, (s.drain d).timer = .running → (s.drain d).state = .streaming ∨ (s.drain d).state = .stopping →
      s.head d = some c →
      let freed := s.freeCapture c
      let charged := if c.fill = .abandoned then freed else freed.chargeLoss c.region .drainStall
      exec (.stallTimerExpiry d) s = .next ((charged.setDrain d { s.drain d with
        state := .fault, queue := (s.drain d).queue.filter (fun n => n ≠ c.slot), timer := .stopped, burst := 0
        position := none, wordsTaken := 0, rq := .low }).raise (.drain d)))

/-- R151: SET_NOTICES takes all seven settings, removes the waiting entries of the kinds that are now MASKED and keeps the order of
the others; a bad setting refuses the whole, naming the lowest index. -/
def Obligations.SetNoticesMasksKinds : Prop :=
  ∀ (s : State) (q : Request), s.ServesNext .setNotices q →
    (∀ k : Nat, k < 7 → (∀ j, j < k → nat1 q.payload j ≤ 1) → 1 < nat1 q.payload k →
      exec .setNotices s = .next (s.finish q [0x03, BitVec.ofNat 8 k])) ∧
    ((∀ k, k < 7 → nat1 q.payload k ≤ 1) →
      ∃ mask : Vector NoticeSetting 7, (∀ k : Fin 7, mask[k] = .masked ↔ nat1 q.payload k.val = 1) ∧
        exec .setNotices s = .next
          (({ s with link := { s.link with
              mask := mask
              notices := s.link.notices.filter (fun n =>
                noticeIndex n = 0 || nat1 q.payload (noticeIndex n - 1) = 0) } } : State).finish q
            (0x00 :: q.payload)))

/-! ### Laws that every step keeps -/

/-- The list of the bytes of capture memory keeps its one canonical form. R67 (law of the pool): every block lies exactly once in the
free pool or in one chain; records keep distinct numbers. -/
def Obligations.StepsKeepCellsAndPoolLaw : Prop :=
  (∀ s t : State, s.CellsCanonical → step s = .next t → t.CellsCanonical) ∧
  (∀ s t : State, s.PoolLaw → s.RecordsDistinct → step s = .next t → t.PoolLaw ∧ t.RecordsDistinct)

/-- R42, R41, R106: every record stays in a legal combination of fill, delivery and route, and every entry of a drain queue is an
in-use record of that drain's route. -/
def Obligations.StepsKeepDirectoryLaw : Prop :=
  ∀ s t : State, s.DirectoryLaw → step s = .next t → t.DirectoryLaw

/-- R55, R67, R52: a COMPLETE capture has every byte written; bytes are written by whole pixels; the chain of a link capture holds
the blocks of exactly the bytes written. -/
def Obligations.StepsKeepCompleteCapturesWritten : Prop :=
  (∀ s t : State, s.RecordsDistinct → s.CompleteIsWritten → s.WholePixels → step s = .next t →
    t.CompleteIsWritten ∧ t.WholePixels) ∧
  (∀ s t : State, s.DirectoryLaw → s.WholePixels → s.LinkChainLaw → step s = .next t → t.LinkChainLaw)

/-- R146 (law of the notice set), R127, R132, R137: at most one entry for each kind and key; the request queue, the reply queue and
the replies-in-a-row count stay within 4. -/
def Obligations.StepsKeepNoticeSetAndLinkQueues : Prop :=
  (∀ s t : State, s.NoticeSetLaw → step s = .next t → t.NoticeSetLaw) ∧
  (∀ s t : State, s.LinkQueuesBounded → step s = .next t → t.LinkQueuesBounded)

/-- R24, R15, R3, R29, R51: stop-pending only in a frame, no commit pending in STOPPED, FV high in a frame; an active entry holds a
definition exactly when it is not UNUSED; a pixel in hand is the last one counted in the present line, and the regions it has still to
reach are the highest ids (a pixel in hand is the form of log 21). -/
def Obligations.StepsKeepFramerAndEntryLaws : Prop :=
  (∀ s t : State, s.FramerLaw → step s = .next t → t.FramerLaw) ∧
  (∀ s t : State, s.EntriesDefined → step s = .next t → t.EntriesDefined) ∧
  (∀ s t : State, s.InHandLaw → step s = .next t → t.InHandLaw)

/-- R103, R106, R108 (law of the drain): a drain without an ACTIVE head is at rest, and an IDLE drain has an empty queue; a queue holds
no record twice, and none before its first byte; an ACTIVE capture of a drain route is the head of that drain's queue and the drain is
STREAMING or STOPPING; a STREAMING or STOPPING drain has an ACTIVE head and a head position. -/
def Obligations.StepsKeepDrainsAtRest : Prop :=
  (∀ s t : State, s.DrainsAtRest → step s = .next t → t.DrainsAtRest) ∧
  (∀ s t : State, s.DirectoryLaw → s.WholePixels → s.DrainsAtRest → s.DrainLaw → step s = .next t → t.DrainLaw)

/-- R51, R52, R55, R28, R43, R74: a FILLING capture exists in IN_FRAME alone, at most one in a region, and holds as many bytes as the
sampled pixels that have reached its region, where a pixel in hand has not yet reached the regions that it has left (log 21); so no
capture is FILLING once its last sampled row has ended. -/
def Obligations.StepsKeepFillingCapturesInRaster : Prop :=
  ∀ s t : State, s.RasterInvariant → step s = .next t → t.RasterInvariant

/-- R97: a fetched link capture is left as it is, in its place in its list, by every command but RELEASE, LINK_BREAK, and the resets
(PIN_RESET and the FRAME_SENT that ends the RESET reply). -/
def Obligations.FetchedCaptureIsLeftAlone : Prop :=
  ∀ (c : Instr) (s t : State) (x : Capture) (before after : List Capture), s.DirectoryLaw → exec c s = .next t →
    s.captures = before ++ x :: after → x.route = .link → x.delivery = .active →
    c ≠ .release → c ≠ .linkBreak → c ≠ .pinReset → (c = .frameSent → s.link.resetPending = false) →
    ∃ before' after', t.captures = before' ++ x :: after' ∧ (before'.map Capture.slot).Sublist (before.map Capture.slot)

/-- R165: from its completion until it is freed, a link capture keeps its record but for the delivery state, its chain and its
bytes. -/
def Obligations.CompleteLinkCaptureKeepsBytes : Prop :=
  ∀ (s t : State) (x : Capture), s.PoolLaw → s.DirectoryLaw → s.WholePixels → step s = .next t → x ∈ s.captures →
    x.route = .link → x.fill = .complete →
    (∃ y ∈ t.captures, y = { x with delivery := y.delivery } ∧ ∀ o, t.captureByte y o = s.captureByte x o) ∨
    (∀ y ∈ t.captures, y.slot = x.slot → y.fill = .filling ∧ y.bytesWritten = 0)

end
end

