-- ==== Sys2Proof/Laws/State.lean ====
section
/-! SUPPORT. One lemma for each field of State and each shared update: which fields the update leaves, and what the changed one becomes. -/

namespace Sys2Proof.Machine

/-! ### Single updates -/

@[simp] theorem State.raise_framer (s : State) (n : Notice) : (s.raise n).framer = s.framer := rfl
@[simp] theorem State.raise_table (s : State) (n : Notice) : (s.raise n).table = s.table := rfl
@[simp] theorem State.raise_memory (s : State) (n : Notice) : (s.raise n).memory = s.memory := rfl
@[simp] theorem State.raise_captures (s : State) (n : Notice) : (s.raise n).captures = s.captures := rfl
@[simp] theorem State.raise_drainA (s : State) (n : Notice) : (s.raise n).drainA = s.drainA := rfl
@[simp] theorem State.raise_drainB (s : State) (n : Notice) : (s.raise n).drainB = s.drainB := rfl
@[simp] theorem State.raise_readiness (s : State) (n : Notice) : (s.raise n).readiness = s.readiness := rfl
@[simp] theorem State.raise_pending (s : State) (n : Notice) : (s.raise n).pending = s.pending := rfl
@[simp] theorem State.raise_inHand (s : State) (n : Notice) : (s.raise n).inHand = s.inHand := rfl

@[simp] theorem State.raiseInput_framer (s : State) (e : InputEvent) : (s.raiseInput e).framer = s.framer := rfl
@[simp] theorem State.raiseInput_table (s : State) (e : InputEvent) : (s.raiseInput e).table = s.table := rfl
@[simp] theorem State.raiseInput_memory (s : State) (e : InputEvent) : (s.raiseInput e).memory = s.memory := rfl
@[simp] theorem State.raiseInput_captures (s : State) (e : InputEvent) : (s.raiseInput e).captures = s.captures := rfl
@[simp] theorem State.raiseInput_drainA (s : State) (e : InputEvent) : (s.raiseInput e).drainA = s.drainA := rfl
@[simp] theorem State.raiseInput_drainB (s : State) (e : InputEvent) : (s.raiseInput e).drainB = s.drainB := rfl
@[simp] theorem State.raiseInput_readiness (s : State) (e : InputEvent) : (s.raiseInput e).readiness = s.readiness := rfl
@[simp] theorem State.raiseInput_pending (s : State) (e : InputEvent) : (s.raiseInput e).pending = s.pending := rfl
@[simp] theorem State.raiseInput_inHand (s : State) (e : InputEvent) : (s.raiseInput e).inHand = s.inHand := rfl

@[simp] theorem State.setEntry_framer (s : State) (r : RegionId) (e : ActiveEntry) : (s.setEntry r e).framer = s.framer := rfl
@[simp] theorem State.setEntry_memory (s : State) (r : RegionId) (e : ActiveEntry) : (s.setEntry r e).memory = s.memory := rfl
@[simp] theorem State.setEntry_captures (s : State) (r : RegionId) (e : ActiveEntry) : (s.setEntry r e).captures = s.captures := rfl
@[simp] theorem State.setEntry_drainA (s : State) (r : RegionId) (e : ActiveEntry) : (s.setEntry r e).drainA = s.drainA := rfl
@[simp] theorem State.setEntry_drainB (s : State) (r : RegionId) (e : ActiveEntry) : (s.setEntry r e).drainB = s.drainB := rfl
@[simp] theorem State.setEntry_link (s : State) (r : RegionId) (e : ActiveEntry) : (s.setEntry r e).link = s.link := rfl
@[simp] theorem State.setEntry_readiness (s : State) (r : RegionId) (e : ActiveEntry) : (s.setEntry r e).readiness = s.readiness := rfl
@[simp] theorem State.setEntry_pending (s : State) (r : RegionId) (e : ActiveEntry) : (s.setEntry r e).pending = s.pending := rfl
@[simp] theorem State.setEntry_inHand (s : State) (r : RegionId) (e : ActiveEntry) : (s.setEntry r e).inHand = s.inHand := rfl

@[simp] theorem State.updateCapture_framer (s : State) (slot : Nat) (f : Capture → Capture) : (s.updateCapture slot f).framer = s.framer := rfl
@[simp] theorem State.updateCapture_table (s : State) (slot : Nat) (f : Capture → Capture) : (s.updateCapture slot f).table = s.table := rfl
@[simp] theorem State.updateCapture_memory (s : State) (slot : Nat) (f : Capture → Capture) : (s.updateCapture slot f).memory = s.memory := rfl
@[simp] theorem State.updateCapture_drainA (s : State) (slot : Nat) (f : Capture → Capture) : (s.updateCapture slot f).drainA = s.drainA := rfl
@[simp] theorem State.updateCapture_drainB (s : State) (slot : Nat) (f : Capture → Capture) : (s.updateCapture slot f).drainB = s.drainB := rfl
@[simp] theorem State.updateCapture_link (s : State) (slot : Nat) (f : Capture → Capture) : (s.updateCapture slot f).link = s.link := rfl
@[simp] theorem State.updateCapture_readiness (s : State) (slot : Nat) (f : Capture → Capture) : (s.updateCapture slot f).readiness = s.readiness := rfl
@[simp] theorem State.updateCapture_pending (s : State) (slot : Nat) (f : Capture → Capture) : (s.updateCapture slot f).pending = s.pending := rfl
@[simp] theorem State.updateCapture_inHand (s : State) (slot : Nat) (f : Capture → Capture) : (s.updateCapture slot f).inHand = s.inHand := rfl

@[simp] theorem State.returnBlocks_framer (s : State) (chain : List Nat) : (s.returnBlocks chain).framer = s.framer := rfl
@[simp] theorem State.returnBlocks_table (s : State) (chain : List Nat) : (s.returnBlocks chain).table = s.table := rfl
@[simp] theorem State.returnBlocks_captures (s : State) (chain : List Nat) : (s.returnBlocks chain).captures = s.captures := rfl
@[simp] theorem State.returnBlocks_drainA (s : State) (chain : List Nat) : (s.returnBlocks chain).drainA = s.drainA := rfl
@[simp] theorem State.returnBlocks_drainB (s : State) (chain : List Nat) : (s.returnBlocks chain).drainB = s.drainB := rfl
@[simp] theorem State.returnBlocks_link (s : State) (chain : List Nat) : (s.returnBlocks chain).link = s.link := rfl
@[simp] theorem State.returnBlocks_readiness (s : State) (chain : List Nat) : (s.returnBlocks chain).readiness = s.readiness := rfl
@[simp] theorem State.returnBlocks_pending (s : State) (chain : List Nat) : (s.returnBlocks chain).pending = s.pending := rfl
@[simp] theorem State.returnBlocks_inHand (s : State) (chain : List Nat) : (s.returnBlocks chain).inHand = s.inHand := rfl

@[simp] theorem State.chargeLoss_framer (s : State) (r : RegionId) (x : LossReason) : (s.chargeLoss r x).framer = s.framer := rfl
@[simp] theorem State.chargeLoss_memory (s : State) (r : RegionId) (x : LossReason) : (s.chargeLoss r x).memory = s.memory := rfl
@[simp] theorem State.chargeLoss_captures (s : State) (r : RegionId) (x : LossReason) : (s.chargeLoss r x).captures = s.captures := rfl
@[simp] theorem State.chargeLoss_drainA (s : State) (r : RegionId) (x : LossReason) : (s.chargeLoss r x).drainA = s.drainA := rfl
@[simp] theorem State.chargeLoss_drainB (s : State) (r : RegionId) (x : LossReason) : (s.chargeLoss r x).drainB = s.drainB := rfl
@[simp] theorem State.chargeLoss_readiness (s : State) (r : RegionId) (x : LossReason) : (s.chargeLoss r x).readiness = s.readiness := rfl
@[simp] theorem State.chargeLoss_pending (s : State) (r : RegionId) (x : LossReason) : (s.chargeLoss r x).pending = s.pending := rfl
@[simp] theorem State.chargeLoss_inHand (s : State) (r : RegionId) (x : LossReason) : (s.chargeLoss r x).inHand = s.inHand := rfl

@[simp] theorem State.freeCapture_framer (s : State) (c : Capture) : (s.freeCapture c).framer = s.framer := rfl
@[simp] theorem State.freeCapture_table (s : State) (c : Capture) : (s.freeCapture c).table = s.table := rfl
@[simp] theorem State.freeCapture_link (s : State) (c : Capture) : (s.freeCapture c).link = s.link := rfl
@[simp] theorem State.freeCapture_readiness (s : State) (c : Capture) : (s.freeCapture c).readiness = s.readiness := rfl
@[simp] theorem State.freeCapture_pending (s : State) (c : Capture) : (s.freeCapture c).pending = s.pending := rfl
@[simp] theorem State.freeCapture_inHand (s : State) (c : Capture) : (s.freeCapture c).inHand = s.inHand := rfl

@[simp] theorem State.discard_framer (s : State) (c : Capture) : (s.discard c).framer = s.framer := rfl
@[simp] theorem State.discard_readiness (s : State) (c : Capture) : (s.discard c).readiness = s.readiness := rfl
@[simp] theorem State.discard_pending (s : State) (c : Capture) : (s.discard c).pending = s.pending := rfl
@[simp] theorem State.discard_inHand (s : State) (c : Capture) : (s.discard c).inHand = s.inHand := rfl

@[simp] theorem State.finish_framer (s : State) (q : Request) (p : List Byte) : (s.finish q p).framer = s.framer := rfl
@[simp] theorem State.finish_table (s : State) (q : Request) (p : List Byte) : (s.finish q p).table = s.table := rfl
@[simp] theorem State.finish_memory (s : State) (q : Request) (p : List Byte) : (s.finish q p).memory = s.memory := rfl
@[simp] theorem State.finish_captures (s : State) (q : Request) (p : List Byte) : (s.finish q p).captures = s.captures := rfl
@[simp] theorem State.finish_drainA (s : State) (q : Request) (p : List Byte) : (s.finish q p).drainA = s.drainA := rfl
@[simp] theorem State.finish_drainB (s : State) (q : Request) (p : List Byte) : (s.finish q p).drainB = s.drainB := rfl
@[simp] theorem State.finish_readiness (s : State) (q : Request) (p : List Byte) : (s.finish q p).readiness = s.readiness := rfl
@[simp] theorem State.finish_pending (s : State) (q : Request) (p : List Byte) : (s.finish q p).pending = s.pending := rfl
@[simp] theorem State.finish_inHand (s : State) (q : Request) (p : List Byte) : (s.finish q p).inHand = s.inHand := rfl

@[simp] theorem State.countError_table (s : State) (e : InputEvent) : (s.countError e).table = s.table := rfl
@[simp] theorem State.countError_memory (s : State) (e : InputEvent) : (s.countError e).memory = s.memory := rfl
@[simp] theorem State.countError_captures (s : State) (e : InputEvent) : (s.countError e).captures = s.captures := rfl
@[simp] theorem State.countError_drainA (s : State) (e : InputEvent) : (s.countError e).drainA = s.drainA := rfl
@[simp] theorem State.countError_drainB (s : State) (e : InputEvent) : (s.countError e).drainB = s.drainB := rfl
@[simp] theorem State.countError_link (s : State) (e : InputEvent) : (s.countError e).link = s.link := rfl
@[simp] theorem State.countError_readiness (s : State) (e : InputEvent) : (s.countError e).readiness = s.readiness := rfl
@[simp] theorem State.countError_pending (s : State) (e : InputEvent) : (s.countError e).pending = s.pending := rfl
@[simp] theorem State.countError_inHand (s : State) (e : InputEvent) : (s.countError e).inHand = s.inHand := rfl

@[simp] theorem State.setFv_table (s : State) (v : Level) : (s.setFv v).table = s.table := rfl
@[simp] theorem State.setFv_memory (s : State) (v : Level) : (s.setFv v).memory = s.memory := rfl
@[simp] theorem State.setFv_captures (s : State) (v : Level) : (s.setFv v).captures = s.captures := rfl
@[simp] theorem State.setFv_drainA (s : State) (v : Level) : (s.setFv v).drainA = s.drainA := rfl
@[simp] theorem State.setFv_drainB (s : State) (v : Level) : (s.setFv v).drainB = s.drainB := rfl
@[simp] theorem State.setFv_link (s : State) (v : Level) : (s.setFv v).link = s.link := rfl
@[simp] theorem State.setFv_readiness (s : State) (v : Level) : (s.setFv v).readiness = s.readiness := rfl
@[simp] theorem State.setFv_pending (s : State) (v : Level) : (s.setFv v).pending = s.pending := rfl
@[simp] theorem State.setFv_inHand (s : State) (v : Level) : (s.setFv v).inHand = s.inHand := rfl

@[simp] theorem State.setLv_table (s : State) (v : Level) : (s.setLv v).table = s.table := rfl
@[simp] theorem State.setLv_memory (s : State) (v : Level) : (s.setLv v).memory = s.memory := rfl
@[simp] theorem State.setLv_captures (s : State) (v : Level) : (s.setLv v).captures = s.captures := rfl
@[simp] theorem State.setLv_drainA (s : State) (v : Level) : (s.setLv v).drainA = s.drainA := rfl
@[simp] theorem State.setLv_drainB (s : State) (v : Level) : (s.setLv v).drainB = s.drainB := rfl
@[simp] theorem State.setLv_link (s : State) (v : Level) : (s.setLv v).link = s.link := rfl
@[simp] theorem State.setLv_readiness (s : State) (v : Level) : (s.setLv v).readiness = s.readiness := rfl
@[simp] theorem State.setLv_pending (s : State) (v : Level) : (s.setLv v).pending = s.pending := rfl
@[simp] theorem State.setLv_inHand (s : State) (v : Level) : (s.setLv v).inHand = s.inHand := rfl

@[simp] theorem State.setFramerState_table (s : State) (v : FramerState) : (s.setFramerState v).table = s.table := rfl
@[simp] theorem State.setFramerState_memory (s : State) (v : FramerState) : (s.setFramerState v).memory = s.memory := rfl
@[simp] theorem State.setFramerState_captures (s : State) (v : FramerState) : (s.setFramerState v).captures = s.captures := rfl
@[simp] theorem State.setFramerState_drainA (s : State) (v : FramerState) : (s.setFramerState v).drainA = s.drainA := rfl
@[simp] theorem State.setFramerState_drainB (s : State) (v : FramerState) : (s.setFramerState v).drainB = s.drainB := rfl
@[simp] theorem State.setFramerState_link (s : State) (v : FramerState) : (s.setFramerState v).link = s.link := rfl
@[simp] theorem State.setFramerState_readiness (s : State) (v : FramerState) : (s.setFramerState v).readiness = s.readiness := rfl
@[simp] theorem State.setFramerState_pending (s : State) (v : FramerState) : (s.setFramerState v).pending = s.pending := rfl
@[simp] theorem State.setFramerState_inHand (s : State) (v : FramerState) : (s.setFramerState v).inHand = s.inHand := rfl

@[simp] theorem State.setStaged_framer (s : State) (r : RegionId) (d : Option RegionDef) : (s.setStaged r d).framer = s.framer := rfl
@[simp] theorem State.setStaged_memory (s : State) (r : RegionId) (d : Option RegionDef) : (s.setStaged r d).memory = s.memory := rfl
@[simp] theorem State.setStaged_captures (s : State) (r : RegionId) (d : Option RegionDef) : (s.setStaged r d).captures = s.captures := rfl
@[simp] theorem State.setStaged_drainA (s : State) (r : RegionId) (d : Option RegionDef) : (s.setStaged r d).drainA = s.drainA := rfl
@[simp] theorem State.setStaged_drainB (s : State) (r : RegionId) (d : Option RegionDef) : (s.setStaged r d).drainB = s.drainB := rfl
@[simp] theorem State.setStaged_link (s : State) (r : RegionId) (d : Option RegionDef) : (s.setStaged r d).link = s.link := rfl
@[simp] theorem State.setStaged_readiness (s : State) (r : RegionId) (d : Option RegionDef) : (s.setStaged r d).readiness = s.readiness := rfl
@[simp] theorem State.setStaged_pending (s : State) (r : RegionId) (d : Option RegionDef) : (s.setStaged r d).pending = s.pending := rfl
@[simp] theorem State.setStaged_inHand (s : State) (r : RegionId) (d : Option RegionDef) : (s.setStaged r d).inHand = s.inHand := rfl

@[simp] theorem State.setCommitPending_framer (s : State) (b : Bool) : (s.setCommitPending b).framer = s.framer := rfl
@[simp] theorem State.setCommitPending_memory (s : State) (b : Bool) : (s.setCommitPending b).memory = s.memory := rfl
@[simp] theorem State.setCommitPending_captures (s : State) (b : Bool) : (s.setCommitPending b).captures = s.captures := rfl
@[simp] theorem State.setCommitPending_drainA (s : State) (b : Bool) : (s.setCommitPending b).drainA = s.drainA := rfl
@[simp] theorem State.setCommitPending_drainB (s : State) (b : Bool) : (s.setCommitPending b).drainB = s.drainB := rfl
@[simp] theorem State.setCommitPending_link (s : State) (b : Bool) : (s.setCommitPending b).link = s.link := rfl
@[simp] theorem State.setCommitPending_readiness (s : State) (b : Bool) : (s.setCommitPending b).readiness = s.readiness := rfl
@[simp] theorem State.setCommitPending_pending (s : State) (b : Bool) : (s.setCommitPending b).pending = s.pending := rfl
@[simp] theorem State.setCommitPending_inHand (s : State) (b : Bool) : (s.setCommitPending b).inHand = s.inHand := rfl

@[simp] theorem State.setLink_framer (s : State) (l : Link) : (s.setLink l).framer = s.framer := rfl
@[simp] theorem State.setLink_table (s : State) (l : Link) : (s.setLink l).table = s.table := rfl
@[simp] theorem State.setLink_memory (s : State) (l : Link) : (s.setLink l).memory = s.memory := rfl
@[simp] theorem State.setLink_captures (s : State) (l : Link) : (s.setLink l).captures = s.captures := rfl
@[simp] theorem State.setLink_drainA (s : State) (l : Link) : (s.setLink l).drainA = s.drainA := rfl
@[simp] theorem State.setLink_drainB (s : State) (l : Link) : (s.setLink l).drainB = s.drainB := rfl
@[simp] theorem State.setLink_readiness (s : State) (l : Link) : (s.setLink l).readiness = s.readiness := rfl
@[simp] theorem State.setLink_pending (s : State) (l : Link) : (s.setLink l).pending = s.pending := rfl
@[simp] theorem State.setLink_inHand (s : State) (l : Link) : (s.setLink l).inHand = s.inHand := rfl

@[simp] theorem State.storePixel_framer (s : State) (c : Capture) (v : Half) : (s.storePixel c v).framer = s.framer := rfl
@[simp] theorem State.storePixel_table (s : State) (c : Capture) (v : Half) : (s.storePixel c v).table = s.table := rfl
@[simp] theorem State.storePixel_drainA (s : State) (c : Capture) (v : Half) : (s.storePixel c v).drainA = s.drainA := rfl
@[simp] theorem State.storePixel_drainB (s : State) (c : Capture) (v : Half) : (s.storePixel c v).drainB = s.drainB := rfl
@[simp] theorem State.storePixel_link (s : State) (c : Capture) (v : Half) : (s.storePixel c v).link = s.link := rfl
@[simp] theorem State.storePixel_readiness (s : State) (c : Capture) (v : Half) : (s.storePixel c v).readiness = s.readiness := rfl
@[simp] theorem State.storePixel_pending (s : State) (c : Capture) (v : Half) : (s.storePixel c v).pending = s.pending := rfl
@[simp] theorem State.storePixel_inHand (s : State) (c : Capture) (v : Half) : (s.storePixel c v).inHand = s.inHand := rfl

@[simp] theorem State.applyCommit_framer (s : State) : (s.applyCommit).framer = s.framer := rfl
@[simp] theorem State.applyCommit_memory (s : State) : (s.applyCommit).memory = s.memory := rfl
@[simp] theorem State.applyCommit_captures (s : State) : (s.applyCommit).captures = s.captures := rfl
@[simp] theorem State.applyCommit_drainA (s : State) : (s.applyCommit).drainA = s.drainA := rfl
@[simp] theorem State.applyCommit_drainB (s : State) : (s.applyCommit).drainB = s.drainB := rfl
@[simp] theorem State.applyCommit_readiness (s : State) : (s.applyCommit).readiness = s.readiness := rfl
@[simp] theorem State.applyCommit_pending (s : State) : (s.applyCommit).pending = s.pending := rfl
@[simp] theorem State.applyCommit_inHand (s : State) : (s.applyCommit).inHand = s.inHand := rfl

@[simp] theorem State.strayTake_framer (s : State) (d : DrainId) : (s.strayTake d).framer = s.framer := by cases d <;> rfl
@[simp] theorem State.strayTake_table (s : State) (d : DrainId) : (s.strayTake d).table = s.table := by cases d <;> rfl
@[simp] theorem State.strayTake_memory (s : State) (d : DrainId) : (s.strayTake d).memory = s.memory := by cases d <;> rfl
@[simp] theorem State.strayTake_captures (s : State) (d : DrainId) : (s.strayTake d).captures = s.captures := by cases d <;> rfl
@[simp] theorem State.strayTake_link (s : State) (d : DrainId) : (s.strayTake d).link = s.link := by cases d <;> rfl
@[simp] theorem State.strayTake_readiness (s : State) (d : DrainId) : (s.strayTake d).readiness = s.readiness := by cases d <;> rfl
@[simp] theorem State.strayTake_pending (s : State) (d : DrainId) : (s.strayTake d).pending = s.pending := by cases d <;> rfl
@[simp] theorem State.strayTake_inHand (s : State) (d : DrainId) : (s.strayTake d).inHand = s.inHand := by cases d <;> rfl

@[simp] theorem State.setDrain_framer (s : State) (d : DrainId) (x : Drain) : (s.setDrain d x).framer = s.framer := by cases d <;> rfl
@[simp] theorem State.setDrain_table (s : State) (d : DrainId) (x : Drain) : (s.setDrain d x).table = s.table := by cases d <;> rfl
@[simp] theorem State.setDrain_memory (s : State) (d : DrainId) (x : Drain) : (s.setDrain d x).memory = s.memory := by cases d <;> rfl
@[simp] theorem State.setDrain_captures (s : State) (d : DrainId) (x : Drain) : (s.setDrain d x).captures = s.captures := by cases d <;> rfl
@[simp] theorem State.setDrain_link (s : State) (d : DrainId) (x : Drain) : (s.setDrain d x).link = s.link := by cases d <;> rfl
@[simp] theorem State.setDrain_readiness (s : State) (d : DrainId) (x : Drain) : (s.setDrain d x).readiness = s.readiness := by cases d <;> rfl
@[simp] theorem State.setDrain_pending (s : State) (d : DrainId) (x : Drain) : (s.setDrain d x).pending = s.pending := by cases d <;> rfl
@[simp] theorem State.setDrain_inHand (s : State) (d : DrainId) (x : Drain) : (s.setDrain d x).inHand = s.inHand := by cases d <;> rfl

/-! ### What the changed field becomes -/

@[simp] theorem State.raise_link (s : State) (n : Notice) : (s.raise n).link = s.link.raise n := rfl

@[simp] theorem State.setLink_link (s : State) (l : Link) : (s.setLink l).link = l := rfl

@[simp] theorem State.updateCapture_captures (s : State) (slot : Nat) (f : Capture → Capture) :
    (s.updateCapture slot f).captures = s.captures.map (fun c => if c.slot = slot then f c else c) := rfl

@[simp] theorem State.returnBlocks_freePool (s : State) (chain : List Nat) :
    (s.returnBlocks chain).memory.freePool = s.memory.freePool ++ chain := rfl

@[simp] theorem State.returnBlocks_cells (s : State) (chain : List Nat) :
    (s.returnBlocks chain).memory.cells = s.memory.cells := rfl

@[simp] theorem State.freeCapture_captures (s : State) (c : Capture) :
    (s.freeCapture c).captures = s.captures.filter (fun x => x.slot ≠ c.slot) := rfl

@[simp] theorem State.freeCapture_freePool (s : State) (c : Capture) :
    (s.freeCapture c).memory.freePool = s.memory.freePool ++ c.chain := rfl

@[simp] theorem State.freeCapture_cells (s : State) (c : Capture) :
    (s.freeCapture c).memory.cells = s.memory.cells := rfl

@[simp] theorem State.freeCapture_drain (s : State) (c : Capture) (d : DrainId) :
    (s.freeCapture c).drain d = (s.drain d).drop c.slot := by cases d <;> rfl

@[simp] theorem State.setFv_framer (s : State) (v : Level) : (s.setFv v).framer = { s.framer with fv := v } := rfl

@[simp] theorem State.setLv_framer (s : State) (v : Level) : (s.setLv v).framer = { s.framer with lv := v } := rfl

@[simp] theorem State.setFramerState_framer (s : State) (st : FramerState) :
    (s.setFramerState st).framer = { s.framer with state := st } := rfl

@[simp] theorem State.setDrain_drain_same (s : State) (d : DrainId) (x : Drain) : (s.setDrain d x).drain d = x := by
  cases d <;> rfl

theorem State.setDrain_drain_other (s : State) {d e : DrainId} (x : Drain) (h : e ≠ d) :
    (s.setDrain d x).drain e = s.drain e := by
  cases d <;> cases e <;> first | exact absurd rfl h | rfl

/-! ### The entry of a region -/

@[simp] theorem State.setEntry_entry_same (s : State) (r : RegionId) (e : ActiveEntry) : (s.setEntry r e).entry r = e := by
  simp [State.entry, State.setEntry]

theorem State.setEntry_entry_other (s : State) {r x : RegionId} (e : ActiveEntry) (h : x ≠ r) :
    (s.setEntry r e).entry x = s.entry x := by
  have h' : r.val ≠ x.val := fun hv => h (Fin.ext hv.symm)
  simp [State.entry, State.setEntry, h']

@[simp] theorem State.setEntry_staged (s : State) (r : RegionId) (e : ActiveEntry) :
    (s.setEntry r e).table.staged = s.table.staged := rfl

@[simp] theorem State.setEntry_commitPending (s : State) (r : RegionId) (e : ActiveEntry) :
    (s.setEntry r e).table.commitPending = s.table.commitPending := rfl

@[simp] theorem State.chargeLoss_staged (s : State) (r : RegionId) (x : LossReason) :
    (s.chargeLoss r x).table.staged = s.table.staged := rfl

@[simp] theorem State.chargeLoss_commitPending (s : State) (r : RegionId) (x : LossReason) :
    (s.chargeLoss r x).table.commitPending = s.table.commitPending := rfl

/-- A loss changes the lost field of its region and of no other (R7). -/
theorem State.chargeLoss_entry (s : State) (r x : RegionId) (reason : LossReason) :
    (s.chargeLoss r reason).entry x =
      if x = r then { s.entry r with lost := satInc (s.entry r).lost } else s.entry x := by
  by_cases h : x = r
  · subst h; simp [State.chargeLoss, State.raise, State.entry, State.setEntry]
  · simp only [h, if_false]; exact State.setEntry_entry_other s _ h

/-! ### What the larger operations leave: the Framer, readiness and the command queue -/

@[simp] theorem State.grantBlock_framer (s : State) (slot : Nat) : (s.grantBlock slot).framer = s.framer := by
  unfold State.grantBlock; split <;> simp

@[simp] theorem State.grantBlock_table (s : State) (slot : Nat) : (s.grantBlock slot).table = s.table := by
  unfold State.grantBlock; split <;> simp

@[simp] theorem State.grantBlock_drainA (s : State) (slot : Nat) : (s.grantBlock slot).drainA = s.drainA := by
  unfold State.grantBlock; split <;> simp

@[simp] theorem State.grantBlock_drainB (s : State) (slot : Nat) : (s.grantBlock slot).drainB = s.drainB := by
  unfold State.grantBlock; split <;> simp

@[simp] theorem State.grantBlock_link (s : State) (slot : Nat) : (s.grantBlock slot).link = s.link := by
  unfold State.grantBlock; split <;> simp

@[simp] theorem State.grantBlock_readiness (s : State) (slot : Nat) : (s.grantBlock slot).readiness = s.readiness := by
  unfold State.grantBlock; split <;> simp

@[simp] theorem State.grantBlock_pending (s : State) (slot : Nat) : (s.grantBlock slot).pending = s.pending := by
  unfold State.grantBlock; split <;> simp

@[simp] theorem State.grantBlock_inHand (s : State) (slot : Nat) : (s.grantBlock slot).inHand = s.inHand := by
  unfold State.grantBlock; split <;> simp

@[simp] theorem State.evaluateBurst_framer (s : State) (d : DrainId) : (s.evaluateBurst d).framer = s.framer := by
  unfold State.evaluateBurst; dsimp only; split
  · split <;> simp
  · simp

@[simp] theorem State.evaluateBurst_table (s : State) (d : DrainId) : (s.evaluateBurst d).table = s.table := by
  unfold State.evaluateBurst; dsimp only; split
  · split <;> simp
  · simp

@[simp] theorem State.evaluateBurst_memory (s : State) (d : DrainId) : (s.evaluateBurst d).memory = s.memory := by
  unfold State.evaluateBurst; dsimp only; split
  · split <;> simp
  · simp

@[simp] theorem State.evaluateBurst_captures (s : State) (d : DrainId) : (s.evaluateBurst d).captures = s.captures := by
  unfold State.evaluateBurst; dsimp only; split
  · split <;> simp
  · simp

@[simp] theorem State.evaluateBurst_link (s : State) (d : DrainId) : (s.evaluateBurst d).link = s.link := by
  unfold State.evaluateBurst; dsimp only; split
  · split <;> simp
  · simp

@[simp] theorem State.evaluateBurst_readiness (s : State) (d : DrainId) : (s.evaluateBurst d).readiness = s.readiness := by
  unfold State.evaluateBurst; dsimp only; split
  · split <;> simp
  · simp

@[simp] theorem State.evaluateBurst_pending (s : State) (d : DrainId) : (s.evaluateBurst d).pending = s.pending := by
  unfold State.evaluateBurst; dsimp only; split
  · split <;> simp
  · simp

@[simp] theorem State.evaluateBurst_inHand (s : State) (d : DrainId) : (s.evaluateBurst d).inHand = s.inHand := by
  unfold State.evaluateBurst; dsimp only; split
  · split <;> simp
  · simp

@[simp] theorem State.evaluateIfLow_framer (s : State) (d : DrainId) : (s.evaluateIfLow d).framer = s.framer := by
  unfold State.evaluateIfLow; split <;> simp

@[simp] theorem State.evaluateIfLow_table (s : State) (d : DrainId) : (s.evaluateIfLow d).table = s.table := by
  unfold State.evaluateIfLow; split <;> simp

@[simp] theorem State.evaluateIfLow_memory (s : State) (d : DrainId) : (s.evaluateIfLow d).memory = s.memory := by
  unfold State.evaluateIfLow; split <;> simp

@[simp] theorem State.evaluateIfLow_captures (s : State) (d : DrainId) : (s.evaluateIfLow d).captures = s.captures := by
  unfold State.evaluateIfLow; split <;> simp

@[simp] theorem State.evaluateIfLow_link (s : State) (d : DrainId) : (s.evaluateIfLow d).link = s.link := by
  unfold State.evaluateIfLow; split <;> simp

@[simp] theorem State.evaluateIfLow_readiness (s : State) (d : DrainId) : (s.evaluateIfLow d).readiness = s.readiness := by
  unfold State.evaluateIfLow; split <;> simp

@[simp] theorem State.evaluateIfLow_pending (s : State) (d : DrainId) : (s.evaluateIfLow d).pending = s.pending := by
  unfold State.evaluateIfLow; split <;> simp

@[simp] theorem State.evaluateIfLow_inHand (s : State) (d : DrainId) : (s.evaluateIfLow d).inHand = s.inHand := by
  unfold State.evaluateIfLow; split <;> simp

@[simp] theorem State.promote_framer (s : State) (d : DrainId) : (s.promote d).framer = s.framer := by
  unfold State.promote; split <;> simp

@[simp] theorem State.promote_table (s : State) (d : DrainId) : (s.promote d).table = s.table := by
  unfold State.promote; split <;> simp

@[simp] theorem State.promote_memory (s : State) (d : DrainId) : (s.promote d).memory = s.memory := by
  unfold State.promote; split <;> simp

@[simp] theorem State.promote_link (s : State) (d : DrainId) : (s.promote d).link = s.link := by
  unfold State.promote; split <;> simp

@[simp] theorem State.promote_readiness (s : State) (d : DrainId) : (s.promote d).readiness = s.readiness := by
  unfold State.promote; split <;> simp

@[simp] theorem State.promote_pending (s : State) (d : DrainId) : (s.promote d).pending = s.pending := by
  unfold State.promote; split <;> simp

@[simp] theorem State.promote_inHand (s : State) (d : DrainId) : (s.promote d).inHand = s.inHand := by
  unfold State.promote; split <;> simp

@[simp] theorem State.joinQueue_framer (s : State) (d : DrainId) (slot : Nat) : (s.joinQueue d slot).framer = s.framer := by
  unfold State.joinQueue; dsimp only; split <;> simp

@[simp] theorem State.joinQueue_table (s : State) (d : DrainId) (slot : Nat) : (s.joinQueue d slot).table = s.table := by
  unfold State.joinQueue; dsimp only; split <;> simp

@[simp] theorem State.joinQueue_memory (s : State) (d : DrainId) (slot : Nat) : (s.joinQueue d slot).memory = s.memory := by
  unfold State.joinQueue; dsimp only; split <;> simp

@[simp] theorem State.joinQueue_link (s : State) (d : DrainId) (slot : Nat) : (s.joinQueue d slot).link = s.link := by
  unfold State.joinQueue; dsimp only; split <;> simp

@[simp] theorem State.joinQueue_readiness (s : State) (d : DrainId) (slot : Nat) : (s.joinQueue d slot).readiness = s.readiness := by
  unfold State.joinQueue; dsimp only; split <;> simp

@[simp] theorem State.joinQueue_pending (s : State) (d : DrainId) (slot : Nat) : (s.joinQueue d slot).pending = s.pending := by
  unfold State.joinQueue; dsimp only; split <;> simp

@[simp] theorem State.joinQueue_inHand (s : State) (d : DrainId) (slot : Nat) : (s.joinQueue d slot).inHand = s.inHand := by
  unfold State.joinQueue; dsimp only; split <;> simp

@[simp] theorem State.cutToTrailer_framer (s : State) (d : DrainId) : (s.cutToTrailer d).framer = s.framer := by
  unfold State.cutToTrailer; split <;> simp

@[simp] theorem State.cutToTrailer_table (s : State) (d : DrainId) : (s.cutToTrailer d).table = s.table := by
  unfold State.cutToTrailer; split <;> simp

@[simp] theorem State.cutToTrailer_memory (s : State) (d : DrainId) : (s.cutToTrailer d).memory = s.memory := by
  unfold State.cutToTrailer; split <;> simp

@[simp] theorem State.cutToTrailer_captures (s : State) (d : DrainId) : (s.cutToTrailer d).captures = s.captures := by
  unfold State.cutToTrailer; split <;> simp

@[simp] theorem State.cutToTrailer_link (s : State) (d : DrainId) : (s.cutToTrailer d).link = s.link := by
  unfold State.cutToTrailer; split <;> simp

@[simp] theorem State.cutToTrailer_readiness (s : State) (d : DrainId) : (s.cutToTrailer d).readiness = s.readiness := by
  unfold State.cutToTrailer; split <;> simp

@[simp] theorem State.cutToTrailer_pending (s : State) (d : DrainId) : (s.cutToTrailer d).pending = s.pending := by
  unfold State.cutToTrailer; split <;> simp

@[simp] theorem State.cutToTrailer_inHand (s : State) (d : DrainId) : (s.cutToTrailer d).inHand = s.inHand := by
  unfold State.cutToTrailer; split <;> simp

@[simp] theorem State.endHead_framer (s : State) (d : DrainId) (x : LossReason) (st : DrainState) : (s.endHead d x st).framer = s.framer := by
  unfold State.endHead; split
  · simp
  · dsimp only; split <;> simp

@[simp] theorem State.endHead_readiness (s : State) (d : DrainId) (x : LossReason) (st : DrainState) : (s.endHead d x st).readiness = s.readiness := by
  unfold State.endHead; split
  · simp
  · dsimp only; split <;> simp

@[simp] theorem State.endHead_pending (s : State) (d : DrainId) (x : LossReason) (st : DrainState) : (s.endHead d x st).pending = s.pending := by
  unfold State.endHead; split
  · simp
  · dsimp only; split <;> simp

@[simp] theorem State.endHead_inHand (s : State) (d : DrainId) (x : LossReason) (st : DrainState) : (s.endHead d x st).inHand = s.inHand := by
  unfold State.endHead; split
  · simp
  · dsimp only; split <;> simp

@[simp] theorem State.abandon_framer (s : State) (c : Capture) (x : LossReason) : (s.abandon c x).framer = s.framer := by
  unfold State.abandon; dsimp only; split
  · simp
  · split <;> simp

@[simp] theorem State.abandon_readiness (s : State) (c : Capture) (x : LossReason) : (s.abandon c x).readiness = s.readiness := by
  unfold State.abandon; dsimp only; split
  · simp
  · split <;> simp

@[simp] theorem State.abandon_pending (s : State) (c : Capture) (x : LossReason) : (s.abandon c x).pending = s.pending := by
  unfold State.abandon; dsimp only; split
  · simp
  · split <;> simp

@[simp] theorem State.abandon_inHand (s : State) (c : Capture) (x : LossReason) : (s.abandon c x).inHand = s.inHand := by
  unfold State.abandon; dsimp only; split
  · simp
  · split <;> simp

@[simp] theorem State.abandonOpen_framer (s : State) (x : LossReason) (r : RegionId) : (s.abandonOpen x r).framer = s.framer := by
  unfold State.abandonOpen; split <;> simp

@[simp] theorem State.abandonOpen_readiness (s : State) (x : LossReason) (r : RegionId) : (s.abandonOpen x r).readiness = s.readiness := by
  unfold State.abandonOpen; split <;> simp

@[simp] theorem State.abandonOpen_pending (s : State) (x : LossReason) (r : RegionId) : (s.abandonOpen x r).pending = s.pending := by
  unfold State.abandonOpen; split <;> simp

@[simp] theorem State.abandonOpen_inHand (s : State) (x : LossReason) (r : RegionId) : (s.abandonOpen x r).inHand = s.inHand := by
  unfold State.abandonOpen; split <;> simp

/-- A fold of steps that keep a projection keeps it. -/
theorem foldl_keeps {α β γ : Type} (f : β → α → β) (p : β → γ) (h : ∀ b a, p (f b a) = p b) (l : List α) (b : β) :
    p (l.foldl f b) = p b := by
  induction l generalizing b with
  | nil => rfl
  | cons a l ih => simp [ih, h]

@[simp] theorem State.abandonAll_framer (s : State) (x : LossReason) : (s.abandonAll x).framer = s.framer := by
  exact foldl_keeps _ State.framer (fun b a => by simp) _ _

@[simp] theorem State.abandonAll_readiness (s : State) (x : LossReason) : (s.abandonAll x).readiness = s.readiness := by
  exact foldl_keeps _ State.readiness (fun b a => by simp) _ _

@[simp] theorem State.abandonAll_pending (s : State) (x : LossReason) : (s.abandonAll x).pending = s.pending := by
  exact foldl_keeps _ State.pending (fun b a => by simp) _ _

@[simp] theorem State.abandonAll_inHand (s : State) (x : LossReason) : (s.abandonAll x).inHand = s.inHand := by
  exact foldl_keeps _ State.inHand (fun b a => by simp) _ _

@[simp] theorem State.applyPending_framer (s : State) : (s.applyPending).framer = s.framer := by
  unfold State.applyPending; split <;> simp

@[simp] theorem State.applyPending_memory (s : State) : (s.applyPending).memory = s.memory := by
  unfold State.applyPending; split <;> simp

@[simp] theorem State.applyPending_captures (s : State) : (s.applyPending).captures = s.captures := by
  unfold State.applyPending; split <;> simp

@[simp] theorem State.applyPending_drainA (s : State) : (s.applyPending).drainA = s.drainA := by
  unfold State.applyPending; split <;> simp

@[simp] theorem State.applyPending_drainB (s : State) : (s.applyPending).drainB = s.drainB := by
  unfold State.applyPending; split <;> simp

@[simp] theorem State.applyPending_readiness (s : State) : (s.applyPending).readiness = s.readiness := by
  unfold State.applyPending; split <;> simp

@[simp] theorem State.applyPending_pending (s : State) : (s.applyPending).pending = s.pending := by
  unfold State.applyPending; split <;> simp

@[simp] theorem State.applyPending_inHand (s : State) : (s.applyPending).inHand = s.inHand := by
  unfold State.applyPending; split <;> simp

@[simp] theorem State.enterStopped_memory (s : State) : (s.enterStopped).memory = s.memory := by
  unfold State.enterStopped; simp

@[simp] theorem State.enterStopped_captures (s : State) : (s.enterStopped).captures = s.captures := by
  unfold State.enterStopped; simp

@[simp] theorem State.enterStopped_drainA (s : State) : (s.enterStopped).drainA = s.drainA := by
  unfold State.enterStopped; simp

@[simp] theorem State.enterStopped_drainB (s : State) : (s.enterStopped).drainB = s.drainB := by
  unfold State.enterStopped; simp

@[simp] theorem State.enterStopped_readiness (s : State) : (s.enterStopped).readiness = s.readiness := by
  unfold State.enterStopped; simp

@[simp] theorem State.enterStopped_pending (s : State) : (s.enterStopped).pending = s.pending := by
  unfold State.enterStopped; simp

@[simp] theorem State.enterStopped_inHand (s : State) : (s.enterStopped).inHand = none := by
  unfold State.enterStopped; simp

@[simp] theorem State.enterSkipping_readiness (s : State) (x : LossReason) (e : InputEvent) : (s.enterSkipping x e).readiness = s.readiness := by
  unfold State.enterSkipping; simp

@[simp] theorem State.enterSkipping_pending (s : State) (x : LossReason) (e : InputEvent) : (s.enterSkipping x e).pending = s.pending := by
  unfold State.enterSkipping; simp

@[simp] theorem State.enterSkipping_inHand (s : State) (x : LossReason) (e : InputEvent) : (s.enterSkipping x e).inHand = s.inHand := by
  unfold State.enterSkipping; simp

theorem State.requestBlock_framer (r : RegionId) (slot : Nat) (l : List Capture) (s : State) :
    (State.requestBlock r slot l s).1.framer = s.framer := by
  induction l generalizing s with
  | nil => unfold State.requestBlock; split <;> simp
  | cons c l ih => unfold State.requestBlock; split <;> simp [ih]

theorem State.makeRoom_framer (r : RegionId) (depth : Nat) (l : List Capture) (s : State) :
    (State.makeRoom r depth l s).framer = s.framer := by
  induction l generalizing s with
  | nil => rfl
  | cons c l ih => unfold State.makeRoom; split <;> simp [ih]

theorem State.requestBlock_readiness (r : RegionId) (slot : Nat) (l : List Capture) (s : State) :
    (State.requestBlock r slot l s).1.readiness = s.readiness := by
  induction l generalizing s with
  | nil => unfold State.requestBlock; split <;> simp
  | cons c l ih => unfold State.requestBlock; split <;> simp [ih]

theorem State.makeRoom_readiness (r : RegionId) (depth : Nat) (l : List Capture) (s : State) :
    (State.makeRoom r depth l s).readiness = s.readiness := by
  induction l generalizing s with
  | nil => rfl
  | cons c l ih => unfold State.makeRoom; split <;> simp [ih]

theorem State.requestBlock_pending (r : RegionId) (slot : Nat) (l : List Capture) (s : State) :
    (State.requestBlock r slot l s).1.pending = s.pending := by
  induction l generalizing s with
  | nil => unfold State.requestBlock; split <;> simp
  | cons c l ih => unfold State.requestBlock; split <;> simp [ih]

theorem State.requestBlock_inHand (r : RegionId) (slot : Nat) (l : List Capture) (s : State) :
    (State.requestBlock r slot l s).1.inHand = s.inHand := by
  induction l generalizing s with
  | nil => unfold State.requestBlock; split <;> simp
  | cons c l ih => unfold State.requestBlock; split <;> simp [ih]

theorem State.makeRoom_pending (r : RegionId) (depth : Nat) (l : List Capture) (s : State) :
    (State.makeRoom r depth l s).pending = s.pending := by
  induction l generalizing s with
  | nil => rfl
  | cons c l ih => unfold State.makeRoom; split <;> simp [ih]

theorem State.makeRoom_inHand (r : RegionId) (depth : Nat) (l : List Capture) (s : State) :
    (State.makeRoom r depth l s).inHand = s.inHand := by
  induction l generalizing s with
  | nil => rfl
  | cons c l ih => unfold State.makeRoom; split <;> simp [ih]

@[simp] theorem State.openRecord_framer (s : State) (r : RegionId) (d : RegionDef) (seq : Half) : (s.openRecord r d seq).framer = s.framer := by
  unfold State.openRecord; split <;> simp

@[simp] theorem State.openRecord_readiness (s : State) (r : RegionId) (d : RegionDef) (seq : Half) : (s.openRecord r d seq).readiness = s.readiness := by
  unfold State.openRecord; split <;> simp

@[simp] theorem State.openRecord_pending (s : State) (r : RegionId) (d : RegionDef) (seq : Half) : (s.openRecord r d seq).pending = s.pending := by
  unfold State.openRecord; split <;> simp

@[simp] theorem State.openRecord_inHand (s : State) (r : RegionId) (d : RegionDef) (seq : Half) : (s.openRecord r d seq).inHand = s.inHand := by
  unfold State.openRecord; split <;> simp

@[simp] theorem State.openDue_framer (s : State) (r : RegionId) (d : RegionDef) : (s.openDue r d).framer = s.framer := by
  unfold State.openDue; dsimp only; split <;> split <;> simp [State.makeRoom_framer]

@[simp] theorem State.openDue_readiness (s : State) (r : RegionId) (d : RegionDef) : (s.openDue r d).readiness = s.readiness := by
  unfold State.openDue; dsimp only; split <;> split <;> simp [State.makeRoom_readiness]

@[simp] theorem State.openDue_pending (s : State) (r : RegionId) (d : RegionDef) : (s.openDue r d).pending = s.pending := by
  unfold State.openDue; dsimp only; split <;> split <;> simp [State.makeRoom_pending]

@[simp] theorem State.openDue_inHand (s : State) (r : RegionId) (d : RegionDef) : (s.openDue r d).inHand = s.inHand := by
  unfold State.openDue; dsimp only; split <;> split <;> simp [State.makeRoom_inHand]

@[simp] theorem State.evaluateRegion_framer (s : State) (r : RegionId) : (s.evaluateRegion r).framer = s.framer := by
  unfold State.evaluateRegion; dsimp only; (repeat' split) <;> simp

@[simp] theorem State.evaluateRegion_readiness (s : State) (r : RegionId) : (s.evaluateRegion r).readiness = s.readiness := by
  unfold State.evaluateRegion; dsimp only; (repeat' split) <;> simp

@[simp] theorem State.evaluateRegion_pending (s : State) (r : RegionId) : (s.evaluateRegion r).pending = s.pending := by
  unfold State.evaluateRegion; dsimp only; (repeat' split) <;> simp

@[simp] theorem State.evaluateRegion_inHand (s : State) (r : RegionId) : (s.evaluateRegion r).inHand = s.inHand := by
  unfold State.evaluateRegion; dsimp only; (repeat' split) <;> simp

@[simp] theorem State.evaluateDue_framer (s : State) : (s.evaluateDue).framer = s.framer := by
  exact foldl_keeps _ State.framer (fun b a => by simp) _ _

@[simp] theorem State.evaluateDue_readiness (s : State) : (s.evaluateDue).readiness = s.readiness := by
  exact foldl_keeps _ State.readiness (fun b a => by simp) _ _

@[simp] theorem State.evaluateDue_pending (s : State) : (s.evaluateDue).pending = s.pending := by
  exact foldl_keeps _ State.pending (fun b a => by simp) _ _

@[simp] theorem State.evaluateDue_inHand (s : State) : (s.evaluateDue).inHand = s.inHand := by
  exact foldl_keeps _ State.inHand (fun b a => by simp) _ _

@[simp] theorem State.tellDrainOfWrite_framer (s : State) (c : Capture) : (s.tellDrainOfWrite c).framer = s.framer := by
  unfold State.tellDrainOfWrite; (repeat' split) <;> simp

@[simp] theorem State.tellDrainOfWrite_readiness (s : State) (c : Capture) : (s.tellDrainOfWrite c).readiness = s.readiness := by
  unfold State.tellDrainOfWrite; (repeat' split) <;> simp

@[simp] theorem State.tellDrainOfWrite_pending (s : State) (c : Capture) : (s.tellDrainOfWrite c).pending = s.pending := by
  unfold State.tellDrainOfWrite; (repeat' split) <;> simp

@[simp] theorem State.tellDrainOfWrite_inHand (s : State) (c : Capture) : (s.tellDrainOfWrite c).inHand = s.inHand := by
  unfold State.tellDrainOfWrite; (repeat' split) <;> simp

@[simp] theorem State.writePixel_framer (s : State) (r : RegionId) (v : Half) : (s.writePixel r v).framer = s.framer := by
  unfold State.writePixel; dsimp only; (repeat' split) <;> simp [State.requestBlock_framer]

@[simp] theorem State.writePixel_readiness (s : State) (r : RegionId) (v : Half) : (s.writePixel r v).readiness = s.readiness := by
  unfold State.writePixel; dsimp only; (repeat' split) <;> simp [State.requestBlock_readiness]

@[simp] theorem State.writePixel_pending (s : State) (r : RegionId) (v : Half) : (s.writePixel r v).pending = s.pending := by
  unfold State.writePixel; dsimp only; (repeat' split) <;> simp [State.requestBlock_pending]

@[simp] theorem State.writePixel_inHand (s : State) (r : RegionId) (v : Half) : (s.writePixel r v).inHand = s.inHand := by
  unfold State.writePixel; dsimp only; (repeat' split) <;> simp [State.requestBlock_inHand]

@[simp] theorem State.serveRegion_framer (x y : Nat) (v : Half) (s : State) (r : RegionId) :
    (State.serveRegion x y v s r).framer = s.framer := by
  unfold State.serveRegion; split <;> simp

@[simp] theorem State.serveRegion_readiness (x y : Nat) (v : Half) (s : State) (r : RegionId) :
    (State.serveRegion x y v s r).readiness = s.readiness := by
  unfold State.serveRegion; split <;> simp

@[simp] theorem State.serveRegion_pending (x y : Nat) (v : Half) (s : State) (r : RegionId) :
    (State.serveRegion x y v s r).pending = s.pending := by
  unfold State.serveRegion; split <;> simp

@[simp] theorem State.serveRegion_inHand (x y : Nat) (v : Half) (s : State) (r : RegionId) :
    (State.serveRegion x y v s r).inHand = s.inHand := by
  unfold State.serveRegion; split <;> simp

@[simp] theorem State.serveRegions_framer (x y : Nat) (v : Half) (asked : Bool) (l : List RegionId) (s : State) :
    (State.serveRegions x y v asked l s).framer = s.framer := by
  induction l generalizing asked s with
  | nil => rfl
  | cons r l ih => unfold State.serveRegions; split <;> simp [ih]

@[simp] theorem State.extractPixel_framer (s : State) (x y : Nat) (v : Half) : (s.extractPixel x y v).framer = s.framer :=
  State.serveRegions_framer x y v false allRegions s

@[simp] theorem State.servePixel_framer (s : State) : s.servePixel.framer = s.framer := by
  unfold State.servePixel; split <;> simp

@[simp] theorem State.finishPixel_framer (s : State) : s.finishPixel.framer = s.framer := by
  unfold State.finishPixel; split
  · rfl
  · exact foldl_keeps _ State.framer (fun b a => by simp) _ _

@[simp] theorem State.serveRegions_readiness (x y : Nat) (v : Half) (asked : Bool) (l : List RegionId) (s : State) :
    (State.serveRegions x y v asked l s).readiness = s.readiness := by
  induction l generalizing asked s with
  | nil => rfl
  | cons r l ih => unfold State.serveRegions; split <;> simp [ih]

@[simp] theorem State.extractPixel_readiness (s : State) (x y : Nat) (v : Half) : (s.extractPixel x y v).readiness = s.readiness :=
  State.serveRegions_readiness x y v false allRegions s

@[simp] theorem State.servePixel_readiness (s : State) : s.servePixel.readiness = s.readiness := by
  unfold State.servePixel; split <;> simp

@[simp] theorem State.finishPixel_readiness (s : State) : s.finishPixel.readiness = s.readiness := by
  unfold State.finishPixel; split
  · rfl
  · exact foldl_keeps _ State.readiness (fun b a => by simp) _ _

@[simp] theorem State.serveRegions_pending (x y : Nat) (v : Half) (asked : Bool) (l : List RegionId) (s : State) :
    (State.serveRegions x y v asked l s).pending = s.pending := by
  induction l generalizing asked s with
  | nil => rfl
  | cons r l ih => unfold State.serveRegions; split <;> simp [ih]

@[simp] theorem State.extractPixel_pending (s : State) (x y : Nat) (v : Half) : (s.extractPixel x y v).pending = s.pending :=
  State.serveRegions_pending x y v false allRegions s

@[simp] theorem State.servePixel_pending (s : State) : s.servePixel.pending = s.pending := by
  unfold State.servePixel; split <;> simp

@[simp] theorem State.finishPixel_pending (s : State) : s.finishPixel.pending = s.pending := by
  unfold State.finishPixel; split
  · rfl
  · exact foldl_keeps _ State.pending (fun b a => by simp) _ _

@[simp] theorem State.finishPixel_inHand (s : State) : s.finishPixel.inHand = none := by
  unfold State.finishPixel; split <;> simp_all

@[simp] theorem State.finishPixel_none (s : State) (h : s.inHand = none) : s.finishPixel = s := by
  unfold State.finishPixel; rw [h]

@[simp] theorem State.servePixel_none (s : State) (h : s.inHand = none) : s.servePixel = s := by
  unfold State.servePixel; rw [h]

@[simp] theorem State.finishCount_framer (s : State) (r : RegionId) : (s.finishCount r).framer = s.framer := by
  unfold State.finishCount; split <;> simp

@[simp] theorem State.finishCount_readiness (s : State) (r : RegionId) : (s.finishCount r).readiness = s.readiness := by
  unfold State.finishCount; split <;> simp

@[simp] theorem State.finishCount_pending (s : State) (r : RegionId) : (s.finishCount r).pending = s.pending := by
  unfold State.finishCount; split <;> simp

@[simp] theorem State.finishCount_inHand (s : State) (r : RegionId) : (s.finishCount r).inHand = s.inHand := by
  unfold State.finishCount; split <;> simp

@[simp] theorem State.announceCompletion_framer (s : State) (c : Capture) : (s.announceCompletion c).framer = s.framer := by
  unfold State.announceCompletion; (repeat' split) <;> simp

@[simp] theorem State.announceCompletion_readiness (s : State) (c : Capture) : (s.announceCompletion c).readiness = s.readiness := by
  unfold State.announceCompletion; (repeat' split) <;> simp

@[simp] theorem State.announceCompletion_pending (s : State) (c : Capture) : (s.announceCompletion c).pending = s.pending := by
  unfold State.announceCompletion; (repeat' split) <;> simp

@[simp] theorem State.announceCompletion_inHand (s : State) (c : Capture) : (s.announceCompletion c).inHand = s.inHand := by
  unfold State.announceCompletion; (repeat' split) <;> simp

@[simp] theorem State.complete_framer (s : State) (c : Capture) : (s.complete c).framer = s.framer := by
  unfold State.complete; simp

@[simp] theorem State.complete_readiness (s : State) (c : Capture) : (s.complete c).readiness = s.readiness := by
  unfold State.complete; simp

@[simp] theorem State.complete_pending (s : State) (c : Capture) : (s.complete c).pending = s.pending := by
  unfold State.complete; simp

@[simp] theorem State.complete_inHand (s : State) (c : Capture) : (s.complete c).inHand = s.inHand := by
  unfold State.complete; simp

@[simp] theorem State.rowEnd_framer (s : State) (row : Nat) : (s.rowEnd row).framer = s.framer := by
  exact foldl_keeps _ State.framer (fun b a => by unfold State.rowEndOf; (repeat' split) <;> simp) _ _

@[simp] theorem State.rowEnd_readiness (s : State) (row : Nat) : (s.rowEnd row).readiness = s.readiness := by
  exact foldl_keeps _ State.readiness (fun b a => by unfold State.rowEndOf; (repeat' split) <;> simp) _ _

@[simp] theorem State.rowEnd_pending (s : State) (row : Nat) : (s.rowEnd row).pending = s.pending := by
  exact foldl_keeps _ State.pending (fun b a => by unfold State.rowEndOf; (repeat' split) <;> simp) _ _

@[simp] theorem State.rowEnd_inHand (s : State) (row : Nat) : (s.rowEnd row).inHand = s.inHand := by
  exact foldl_keeps _ State.inHand (fun b a => by unfold State.rowEndOf; (repeat' split) <;> simp) _ _


end Sys2Proof.Machine
end

