-- ==== Sys2Proof/Laws/Link.lean ====
section
/-! SUPPORT. What the shared operations of the Link Controller can do: the arbiter's choice, a raise, the entry of a reply, the end of an execution, and the execution of a head request. -/

namespace Sys2Proof.Machine

/-! ### The arbiter (R138) -/

/-- The arbiter changes nothing but the transmitter, the notice set and the replies-in-a-row count. -/
theorem Link.arbitrate_frame (l : Link) :
    l.arbitrate = { l with
      transmitter := l.arbitrate.transmitter, notices := l.arbitrate.notices, repliesInRow := l.arbitrate.repliesInRow } := by
  unfold Link.arbitrate
  split
  · split
    · rfl
    · rfl
    · rfl
    · split <;> rfl
  · rfl

/-- The notices the arbiter leaves are the set as it was, or the set without its oldest entry. -/
theorem Link.arbitrate_notices (l : Link) :
    l.arbitrate.notices = l.notices ∨ l.arbitrate.notices = l.notices.tail := by
  unfold Link.arbitrate
  split
  · split
    · exact .inl rfl
    · rename_i h
      by_cases hr : l.resetPending <;> simp [hr] at h
      exact .inr (by rw [h]; rfl)
    · exact .inl rfl
    · rename_i h
      by_cases hr : l.resetPending <;> simp [hr] at h
      split
      · exact .inl rfl
      · exact .inr (by rw [h]; rfl)
  · exact .inl rfl

/-- A transmitter that sends is left alone. -/
theorem Link.arbitrate_busy (l : Link) (h : l.transmitter ≠ .idle) : l.arbitrate = l := by
  unfold Link.arbitrate
  split
  · rename_i hi; exact absurd hi h
  · rfl

@[simp] theorem Link.arbitrate_requests (l : Link) : l.arbitrate.requests = l.requests := by rw [l.arbitrate_frame]
@[simp] theorem Link.arbitrate_replies (l : Link) : l.arbitrate.replies = l.replies := by rw [l.arbitrate_frame]
@[simp] theorem Link.arbitrate_lastReply (l : Link) : l.arbitrate.lastReply = l.lastReply := by rw [l.arbitrate_frame]
@[simp] theorem Link.arbitrate_mask (l : Link) : l.arbitrate.mask = l.mask := by rw [l.arbitrate_frame]
@[simp] theorem Link.arbitrate_rate (l : Link) : l.arbitrate.rate = l.rate := by rw [l.arbitrate_frame]
@[simp] theorem Link.arbitrate_receiver (l : Link) : l.arbitrate.receiver = l.receiver := by rw [l.arbitrate_frame]
@[simp] theorem Link.arbitrate_rxd (l : Link) : l.arbitrate.rxd = l.rxd := by rw [l.arbitrate_frame]
@[simp] theorem Link.arbitrate_resetPending (l : Link) : l.arbitrate.resetPending = l.resetPending := by
  rw [l.arbitrate_frame]
@[simp] theorem Link.arbitrate_receiveDiscards (l : Link) : l.arbitrate.receiveDiscards = l.receiveDiscards := by
  rw [l.arbitrate_frame]
@[simp] theorem Link.arbitrate_overruns (l : Link) : l.arbitrate.overruns = l.overruns := by rw [l.arbitrate_frame]

/-- The replies-in-a-row count stays within 4 (R127). -/
theorem Link.arbitrate_repliesInRow_le (l : Link) (h : l.repliesInRow ≤ Config.repliesBeforeNotice) :
    l.arbitrate.repliesInRow ≤ Config.repliesBeforeNotice := by
  unfold Link.arbitrate
  split
  · split
    · exact h
    · exact Nat.zero_le _
    · exact Nat.zero_le _
    · split
      · rename_i hlt; exact hlt
      · exact Nat.zero_le _
  · exact h

/-! ### A raise (R147) -/

/-- Everything a raise can do: it is dropped, it updates the waiting entry of its kind and key, or it enters a new entry at
the end of the set and the arbiter chooses. -/
theorem Link.raise_cases (l : Link) (n : Notice) :
    ((l.resetPending = true ∨ l.isMasked n = true) ∧ l.raise n = l) ∨
    (l.resetPending = false ∧ l.isMasked n = false ∧ l.notices.any (fun e => sameKey e n) = true ∧
      l.raise n = { l with notices := l.notices.map (fun e => if sameKey e n then e.updatedBy n else e) }) ∨
    (l.resetPending = false ∧ l.isMasked n = false ∧ l.notices.any (fun e => sameKey e n) = false ∧
      l.raise n = ({ l with notices := l.notices ++ [n] } : Link).arbitrate) := by
  unfold Link.raise
  cases hr : l.resetPending
  · cases hm : l.isMasked n
    · cases ha : l.notices.any (fun e => sameKey e n) <;> simp
    · simp
  · simp

@[simp] theorem Link.raise_requests (l : Link) (n : Notice) : (l.raise n).requests = l.requests := by
  rcases l.raise_cases n with ⟨_, h⟩ | ⟨_, _, _, h⟩ | ⟨_, _, _, h⟩ <;> simp [h]
@[simp] theorem Link.raise_replies (l : Link) (n : Notice) : (l.raise n).replies = l.replies := by
  rcases l.raise_cases n with ⟨_, h⟩ | ⟨_, _, _, h⟩ | ⟨_, _, _, h⟩ <;> simp [h]
@[simp] theorem Link.raise_lastReply (l : Link) (n : Notice) : (l.raise n).lastReply = l.lastReply := by
  rcases l.raise_cases n with ⟨_, h⟩ | ⟨_, _, _, h⟩ | ⟨_, _, _, h⟩ <;> simp [h]
@[simp] theorem Link.raise_mask (l : Link) (n : Notice) : (l.raise n).mask = l.mask := by
  rcases l.raise_cases n with ⟨_, h⟩ | ⟨_, _, _, h⟩ | ⟨_, _, _, h⟩ <;> simp [h]
@[simp] theorem Link.raise_resetPending (l : Link) (n : Notice) : (l.raise n).resetPending = l.resetPending := by
  rcases l.raise_cases n with ⟨_, h⟩ | ⟨_, _, _, h⟩ | ⟨_, _, _, h⟩ <;> simp [h]
@[simp] theorem Link.raise_rate (l : Link) (n : Notice) : (l.raise n).rate = l.rate := by
  rcases l.raise_cases n with ⟨_, h⟩ | ⟨_, _, _, h⟩ | ⟨_, _, _, h⟩ <;> simp [h]
@[simp] theorem Link.raise_receiver (l : Link) (n : Notice) : (l.raise n).receiver = l.receiver := by
  rcases l.raise_cases n with ⟨_, h⟩ | ⟨_, _, _, h⟩ | ⟨_, _, _, h⟩ <;> simp [h]
@[simp] theorem Link.raise_rxd (l : Link) (n : Notice) : (l.raise n).rxd = l.rxd := by
  rcases l.raise_cases n with ⟨_, h⟩ | ⟨_, _, _, h⟩ | ⟨_, _, _, h⟩ <;> simp [h]

/-- The updated entry keeps its kind and key (R148). -/
theorem sameKey_updatedBy (e n m : Notice) : sameKey (e.updatedBy n) m = sameKey e m := by
  cases e <;> cases n <;> cases m <;> rfl

/-! ### Execution of a head request (R133) -/

/-- What the end of an execution leaves: the Link Controller alone changes. -/
theorem State.finish_frame (s : State) (q : Request) (p : List Byte) :
    s.finish q p = { s with link := (s.finish q p).link } := rfl

@[simp] theorem State.finish_requests (s : State) (q : Request) (p : List Byte) :
    (s.finish q p).link.requests = s.link.requests.tail := by simp [State.finish, Link.enterReply]

@[simp] theorem State.finish_replies (s : State) (q : Request) (p : List Byte) :
    (s.finish q p).link.replies = s.link.replies ++ [replyTo q p] := by simp [State.finish, Link.enterReply]

@[simp] theorem State.finish_lastReply (s : State) (q : Request) (p : List Byte) :
    (s.finish q p).link.lastReply = some { tag := q.tag, kind := q.kind, reply := replyTo q p } := by
  simp [State.finish, Link.enterReply]

theorem State.replayHead_frame (s : State) : s.replayHead = { s with link := s.replayHead.link } := by
  unfold State.replayHead
  split <;> rfl

/-- Everything the step of executing a head request can do (R133): no place or no room, a replay, a LENGTH refusal, or the
owning block's body and the end of the execution. -/
theorem State.serve_cases (s : State) (k : ReqKind) (form : List Byte → Bool)
    (body : State → List Byte → State × List Byte) :
    s.serve k form body = s ∨
    s.serve k form body = s.replayHead ∨
    ∃ q, s.link.requests.head? = some q ∧ q.kind = k.code ∧ s.link.replies.length < Config.replySlots ∧
      s.link.matchesStored q = false ∧
      ((q.payload.length ≠ k.payloadLength ∧ s.serve k form body = s.finish q replyLength) ∨
       (q.payload.length = k.payloadLength ∧ form q.payload = true ∧
        s.serve k form body = (body s q.payload).1.finish q (body s q.payload).2)) := by
  unfold State.serve
  split
  · exact .inl rfl
  · rename_i q rest hq
    split
    · rename_i hk
      simp only [Bool.and_eq_true, decide_eq_true_eq] at hk
      split
      · rename_i hroom
        split
        · exact .inr (.inl rfl)
        · rename_i hm
          refine .inr (.inr ⟨q, by simp [hq], hk.1, hroom, by simpa using hm, ?_⟩)
          split
          · rename_i hl; exact .inl ⟨hl, rfl⟩
          · rename_i hl; exact .inr ⟨by simpa using hl, hk.2, rfl⟩
      · exact .inl rfl
    · exact .inl rfl

/-- The execution of a head request of the right kind, form and length, with room for a reply and no replay. -/
theorem State.serve_executes (s : State) (k : ReqKind) (form : List Byte → Bool)
    (body : State → List Byte → State × List Byte) (q : Request) (hq : s.link.requests.head? = some q)
    (hk : q.kind = k.code) (hf : form q.payload = true) (hroom : s.link.replies.length < Config.replySlots)
    (hm : s.link.matchesStored q = false) (hl : q.payload.length = k.payloadLength) :
    s.serve k form body = (body s q.payload).1.finish q (body s q.payload).2 := by
  unfold State.serve
  cases h : s.link.requests with
  | nil => simp [h] at hq
  | cons x rest =>
    obtain rfl : x = q := by simpa [h] using hq
    simp only [hk, hf, hroom, hm, hl]
    simp

/-- A property that the end of an execution, a replay and every outcome of the body keep is kept by the whole step. -/
theorem State.serve_keeps (P : State → Prop) (s : State) (k : ReqKind) (form : List Byte → Bool)
    (body : State → List Byte → State × List Byte) (h : P s) (hreplay : P s.replayHead)
    (hfinish : ∀ t q p, P t → P (t.finish q p)) (hbody : ∀ p, P (body s p).1) : P (s.serve k form body) := by
  rcases s.serve_cases k form body with h' | h' | ⟨q, _, _, _, _, ⟨_, h'⟩ | ⟨_, _, h'⟩⟩ <;> rw [h']
  · exact h
  · exact hreplay
  · exact hfinish _ _ _ h
  · exact hfinish _ _ _ (hbody _)

end Sys2Proof.Machine
end

