-- ==== Sys2Proof/Laws/Memory.lean ====
section
/-! SUPPORT. The laws of the bytes of capture memory: a read after a write, and that a write keeps the canonical form. -/

namespace Sys2Proof.Machine

@[simp] theorem Memory.read_nil (a : Nat) : Memory.read [] a = Memory.fill := rfl

/-- A cell below every listed address reads as an unlisted one. -/
theorem Memory.read_of_lt (m : List Host.Cell) (a : Nat) (h : ∀ c ∈ m, a < c.1) : Memory.read m a = Memory.fill := by
  induction m with
  | nil => rfl
  | cons c m ih =>
    obtain ⟨k, v⟩ := c
    have hk : k ≠ a := Nat.ne_of_gt (h (k, v) (by simp))
    simp only [Memory.read, hk, if_false]
    exact ih (fun c hc => h c (by simp [hc]))

/-- A read of the cell just written gives the byte written. -/
theorem Memory.read_write_same (m : List Host.Cell) (h : Memory.wf m) (a : Nat) (v : Byte) :
    Memory.read (Memory.write m a v) a = v := by
  induction m with
  | nil => by_cases hv : v = Memory.fill <;> simp [Memory.write, Memory.read, hv]
  | cons c m ih =>
    obtain ⟨k, w⟩ := c
    obtain ⟨hp, hne⟩ := h
    rw [List.pairwise_cons] at hp
    have hm : Memory.wf m := ⟨hp.2, fun c hc => hne c (by simp [hc])⟩
    unfold Memory.write
    split
    · rename_i hlt
      split
      · rename_i hv
        rw [hv]
        exact Memory.read_of_lt _ _ (by
          intro c hc
          rcases List.mem_cons.mp hc with rfl | hc
          · exact hlt
          · exact Nat.lt_trans hlt (hp.1 c hc))
      · simp [Memory.read]
    · split
      · rename_i heq
        split
        · rename_i hv
          rw [hv, heq]
          exact Memory.read_of_lt _ _ (fun c hc => hp.1 c hc)
        · simp [Memory.read]
      · rename_i hne'
        simp only [Memory.read, Ne.symm hne', if_false]
        exact ih hm

/-- A write leaves every other cell alone. -/
theorem Memory.read_write_other (m : List Host.Cell) {a b : Nat} (v : Byte) (h : b ≠ a) :
    Memory.read (Memory.write m a v) b = Memory.read m b := by
  induction m with
  | nil => by_cases hv : v = Memory.fill <;> simp [Memory.write, Memory.read, hv, Ne.symm h]
  | cons c m ih =>
    obtain ⟨k, w⟩ := c
    unfold Memory.write
    split
    · split
      · rfl
      · simp [Memory.read, Ne.symm h]
    · split
      · rename_i heq
        split
        · simp [Memory.read, ← heq, Ne.symm h]
        · simp [Memory.read, ← heq, Ne.symm h]
      · simp only [Memory.read, ih]

/-- Every address listed after a write was listed before, or is the one written. -/
theorem Memory.mem_write (m : List Host.Cell) (a : Nat) (v : Byte) (c : Host.Cell) (h : c ∈ Memory.write m a v) :
    c ∈ m ∨ (c = (a, v) ∧ v ≠ Memory.fill) := by
  induction m with
  | nil =>
    unfold Memory.write at h
    split at h
    · simp at h
    · rename_i hv; exact .inr ⟨by simpa using h, hv⟩
  | cons x m ih =>
    obtain ⟨k, w⟩ := x
    unfold Memory.write at h
    split at h
    · split at h
      · exact .inl h
      · rename_i hv
        rcases List.mem_cons.mp h with rfl | h
        · exact .inr ⟨rfl, hv⟩
        · exact .inl h
    · split at h
      · split at h
        · exact .inl (List.mem_cons_of_mem _ h)
        · rename_i hv
          rcases List.mem_cons.mp h with rfl | h
          · exact .inr ⟨rfl, hv⟩
          · exact .inl (List.mem_cons_of_mem _ h)
      · rcases List.mem_cons.mp h with rfl | h
        · exact .inl (by simp)
        · rcases ih h with h | h
          · exact .inl (List.mem_cons_of_mem _ h)
          · exact .inr h

/-- A write keeps the canonical form. -/
theorem Memory.write_wf (m : List Host.Cell) (h : Memory.wf m) (a : Nat) (v : Byte) : Memory.wf (Memory.write m a v) := by
  refine ⟨?_, fun c hc => ?_⟩
  · induction m with
    | nil => unfold Memory.write; split <;> simp
    | cons x m ih =>
      obtain ⟨k, w⟩ := x
      obtain ⟨hp, hne⟩ := h
      have hp' := List.pairwise_cons.mp hp
      have hm : Memory.wf m := ⟨hp'.2, fun c hc => hne c (by simp [hc])⟩
      unfold Memory.write
      split
      · rename_i hlt
        split
        · exact hp
        · refine List.pairwise_cons.mpr ⟨?_, hp⟩
          intro c hc
          rcases List.mem_cons.mp hc with rfl | hc
          · exact hlt
          · exact Nat.lt_trans hlt (hp'.1 c hc)
      · split
        · rename_i heq
          subst heq
          split
          · exact hp'.2
          · exact List.pairwise_cons.mpr ⟨hp'.1, hp'.2⟩
        · rename_i hge hne'
          refine List.pairwise_cons.mpr ⟨?_, ih hm⟩
          intro c hc
          rcases Memory.mem_write m a v c hc with hc | ⟨rfl, _⟩
          · exact hp'.1 c hc
          · simp only; omega
  · rcases Memory.mem_write m a v c hc with hc | ⟨rfl, hv⟩
    · exact h.2 c hc
    · exact hv

/-- The bytes of a pixel keep the canonical form. -/
theorem writePixelCells_wf (m : List Host.Cell) (h : Memory.wf m) (c : Capture) (bytes : List Byte) :
    Memory.wf (writePixelCells m c bytes) := by
  unfold writePixelCells
  split
  · exact h
  · generalize bytes.zipIdx (c.bytesWritten % Config.blockSize) = l
    induction l generalizing m with
    | nil => exact h
    | cons x l ih => exact ih _ (Memory.write_wf m h _ _)

end Sys2Proof.Machine
end

