-- ==== Sys2Proof/Laws/Ops.lean ====
section
/-! SUPPORT. What the shared operations on captures, blocks, drains and frames can do: which parts of the state each may change, and how a property kept by the small operations is kept by the loops over them. -/

namespace Sys2Proof.Machine

/-! ### Losses, frees and grants -/

/-- A loss changes one active entry's lost count and the Link Controller. -/
theorem State.chargeLoss_frame (s : State) (r : RegionId) (reason : LossReason) :
    s.chargeLoss r reason = { s with
      table := { s.table with active := s.table.active.set r { s.entry r with lost := satInc (s.entry r).lost } }
      link := s.link.raise (.lost r 1 reason) } := rfl

/-- A free changes the pool, the list of captures and the drain queues. -/
theorem State.freeCapture_frame (s : State) (c : Capture) :
    s.freeCapture c = { s with
      memory := { s.memory with freePool := s.memory.freePool ++ c.chain }
      captures := s.captures.filter (fun x => x.slot ≠ c.slot)
      drainA := s.drainA.drop c.slot
      drainB := s.drainB.drop c.slot } := rfl

/-- A discard is a free and a loss. -/
theorem State.discard_frame (s : State) (c : Capture) :
    s.discard c = { s.freeCapture c with
      table := (s.chargeLoss c.region .discarded).table
      link := s.link.raise (.lost c.region 1 .discarded) } := rfl

/-- A grant changes the pool and the list of captures; no byte of the memory. -/
theorem State.grantBlock_frame (s : State) (slot : Nat) :
    s.grantBlock slot = { s with
      memory := { (s.grantBlock slot).memory with cells := s.memory.cells }
      captures := (s.grantBlock slot).captures } := by
  unfold State.grantBlock
  split <;> rfl

/-- A grant with a free block: that block joins the end of the chain. -/
theorem State.grantBlock_of_free (s : State) (slot b : Nat) (rest : List Nat) (h : s.memory.freePool = b :: rest) :
    s.grantBlock slot = { s with
      memory := { s.memory with freePool := rest }
      captures := s.captures.map (fun c => if c.slot = slot then { c with chain := c.chain ++ [b] } else c) } := by
  unfold State.grantBlock
  rw [h]
  rfl

/-- What grants and discards keep, a block request keeps. -/
theorem State.requestBlock_keeps (P : State → Prop) (r : RegionId) (slot : Nat)
    (grant : ∀ s, P s → P (s.grantBlock slot)) (discard : ∀ s c, P s → P (s.discard c)) :
    ∀ (cs : List Capture) (s : State), P s → P (State.requestBlock r slot cs s).1 := by
  intro cs
  induction cs with
  | nil =>
    intro s h
    unfold State.requestBlock
    split
    · exact grant s h
    · exact h
  | cons c rest ih =>
    intro s h
    unfold State.requestBlock
    split
    · exact grant s h
    · exact ih _ (discard s c h)

/-- What discards keep, making room for an open keeps. -/
theorem State.makeRoom_keeps (P : State → Prop) (r : RegionId) (depth : Nat) (discard : ∀ s c, P s → P (s.discard c)) :
    ∀ (cs : List Capture) (s : State), P s → P (State.makeRoom r depth cs s) := by
  intro cs
  induction cs with
  | nil => intro s h; exact h
  | cons c rest ih =>
    intro s h
    unfold State.makeRoom
    split
    · exact h
    · exact ih _ (discard s c h)

/-! ### Loops over the regions -/

/-- What one turn of a loop keeps, the loop keeps. -/
theorem foldl_keeps_prop {α : Type} (P : State → Prop) (f : State → α → State) (h : ∀ s a, P s → P (f s a)) :
    ∀ (l : List α) (s : State), P s → P (l.foldl f s) := by
  intro l
  induction l with
  | nil => intro s hs; exact hs
  | cons a rest ih => intro s hs; exact ih _ (h s a hs)

/-- What one abandonment keeps, the abandonment of every FILLING capture keeps. -/
theorem State.abandonAll_keeps (P : State → Prop) (reason : LossReason) (h : ∀ s r, P s → P (s.abandonOpen reason r))
    (s : State) (hs : P s) : P (s.abandonAll reason) := foldl_keeps_prop P _ h allRegions s hs

/-- What the due evaluation of one region keeps, that of all keeps. -/
theorem State.evaluateDue_keeps (P : State → Prop) (h : ∀ s r, P s → P (s.evaluateRegion r)) (s : State) (hs : P s) :
    P s.evaluateDue := foldl_keeps_prop P _ h allRegions s hs

/-- What the row end of one region keeps, that of all keeps. -/
theorem State.rowEnd_keeps (P : State → Prop) (row : Nat) (h : ∀ s r, P s → P (State.rowEndOf row s r)) (s : State)
    (hs : P s) : P (s.rowEnd row) := foldl_keeps_prop P _ h allRegions s hs

/-! ### The pixel in hand -/

/-- What one write keeps, the pixel as one region sees it keeps. -/
theorem State.serveRegion_keeps (P : State → Prop) (x y : Nat) (v : Half) (h : ∀ s r, P s → P (s.writePixel r v)) (s : State)
    (r : RegionId) (hs : P s) : P (State.serveRegion x y v s r) := by
  unfold State.serveRegion
  split
  · exact h s r hs
  · exact hs

/-- The regions served in one step are a first part of the list, which is left in hand where it is not the whole. -/
theorem State.serveRegions_split (x y : Nat) (v : Half) (asked : Bool) (l : List RegionId) (s : State) :
    ∃ k, k ≤ l.length ∧ State.serveRegions x y v asked l s =
      { (l.take k).foldl (State.serveRegion x y v) s with
        inHand := if k = l.length then none else some { x := x, y := y, value := v, rest := l.drop k } } := by
  induction l generalizing asked s with
  | nil => exact ⟨0, Nat.le_refl 0, rfl⟩
  | cons r l ih =>
    unfold State.serveRegions
    split
    · exact ⟨0, Nat.zero_le _, rfl⟩
    · obtain ⟨k, hk, h⟩ := ih (asked || s.asksForBlock r x y) (State.serveRegion x y v s r)
      exact ⟨k + 1, Nat.succ_le_succ hk, by rw [h]; simp⟩

/-- What one write and the note of the pixel in hand keep, a pixel event keeps. -/
theorem State.extractPixel_keeps (P : State → Prop) (x y : Nat) (v : Half) (h : ∀ s r, P s → P (s.writePixel r v))
    (note : ∀ s p, P s → P { s with inHand := p }) (s : State) (hs : P s) : P (s.extractPixel x y v) := by
  obtain ⟨k, _, hk⟩ := State.serveRegions_split x y v false allRegions s
  unfold State.extractPixel
  rw [hk]
  exact note _ _ (foldl_keeps_prop P _ (State.serveRegion_keeps P x y v h) _ s hs)

/-- What one write and the note of the pixel in hand keep, the pixel's next request keeps. -/
theorem State.servePixel_keeps (P : State → Prop) (h : ∀ s r v, P s → P (s.writePixel r v))
    (note : ∀ s p, P s → P { s with inHand := p }) (s : State) (hs : P s) : P s.servePixel := by
  unfold State.servePixel
  split
  · exact hs
  · rename_i p _
    obtain ⟨k, _, hk⟩ := State.serveRegions_split p.x p.y p.value false p.rest s
    rw [hk]
    exact note _ _ (foldl_keeps_prop P _ (State.serveRegion_keeps P p.x p.y p.value (fun s r => h s r p.value)) _ s hs)

/-- What one write and the note of the pixel in hand keep, the rest of the pixel keeps. -/
theorem State.finishPixel_keeps (P : State → Prop) (h : ∀ s r v, P s → P (s.writePixel r v))
    (note : ∀ s p, P s → P { s with inHand := p }) (s : State) (hs : P s) : P s.finishPixel := by
  unfold State.finishPixel
  split
  · exact hs
  · rename_i p _
    exact note _ _ (foldl_keeps_prop P _ (State.serveRegion_keeps P p.x p.y p.value (fun s r => h s r p.value)) _ s hs)

/-! ### Drains -/

/-- Setting a drain to what it is changes nothing. -/
theorem State.setDrain_drain (s : State) (d : DrainId) : s.setDrain d (s.drain d) = s := by
  cases d <;> rfl

/-- The drain that was set is read back. -/
theorem State.drain_setDrain (s : State) (d : DrainId) (x : Drain) : (s.setDrain d x).drain d = x := by
  cases d <;> rfl

/-- The second of two settings of a drain stands. -/
theorem State.setDrain_setDrain (s : State) (d : DrainId) (x y : Drain) : (s.setDrain d x).setDrain d y = s.setDrain d y := by
  cases d <;> rfl

/-- The evaluation of the burst condition changes the request line, the burst and the timer of its drain. -/
theorem State.evaluateBurst_frame (s : State) (d : DrainId) :
    ∃ rq burst timer, s.evaluateBurst d = s.setDrain d { s.drain d with rq := rq, burst := burst, timer := timer } := by
  unfold State.evaluateBurst
  dsimp only
  split
  · split
    · exact ⟨_, _, _, rfl⟩
    · exact ⟨_, _, _, rfl⟩
  · exact ⟨_, _, _, rfl⟩

/-- A promotion changes its drain and the delivery state of one record. -/
theorem State.promote_frame (s : State) (d : DrainId) :
    ∃ slot x, s.promote d = s ∨
      s.promote d = (s.updateCapture slot (fun c => { c with delivery := .active })).setDrain d x ∧
        x.queue = (s.drain d).queue ∧ (s.drain d).queue.head? = some slot ∧ x.state = .streaming := by
  unfold State.promote
  split
  · exact ⟨0, s.drain d, .inl rfl⟩
  · rename_i slot rest hq
    obtain ⟨rq, burst, timer, h⟩ := State.evaluateBurst_frame
      ((s.updateCapture slot (fun c => { c with delivery := .active })).setDrain d
        { s.drain d with state := .streaming, position := some (.header 0), wordsTaken := 0 }) d
    rw [State.drain_setDrain, State.setDrain_setDrain] at h
    exact ⟨slot, _, .inr ⟨h, rfl, by rw [hq]; rfl, rfl⟩⟩

/-! ### Commits and the Framer's states -/

/-- An apply changes the active copy, the commit-pending flag and the Link Controller. -/
theorem State.applyCommit_frame (s : State) :
    s.applyCommit = { s with
      table := { s.applyCommit.table with staged := s.table.staged, commitPending := false }
      link := s.link.raise (.applied s.framer.frameNumber) } := rfl

/-- The entry into STOPPED changes the Framer's state and stop-pending flag, the table as an apply does, and the Link
Controller, and leaves no pixel in hand. -/
theorem State.enterStopped_frame (s : State) :
    s.enterStopped = { s with
      framer := { s.framer with state := .stopped, stopPending := false }
      inHand := none
      table := s.enterStopped.table
      link := s.enterStopped.link } := by
  unfold State.enterStopped State.applyPending
  split <;> rfl

/-- The count of an input error changes the error counts alone. -/
theorem State.countError_frame (s : State) (event : InputEvent) :
    s.countError event = { s with framer := { s.framer with errors := (s.countError event).framer.errors } } := by
  unfold State.countError
  cases event <;> dsimp only

/-- A reset of the part keeps the bytes of the memory and the commands that wait. -/
theorem State.partReset_kept (s : State) (cause : ResetCause) :
    (s.partReset cause).memory.cells = s.memory.cells ∧ (s.partReset cause).pending = s.pending := by
  unfold State.partReset
  exact ⟨rfl, rfl⟩

/-! ### A step -/

/-- A step with a command at the front runs it. -/
theorem step_cons (s : State) (c : Instr) (rest : List Instr) (h : s.pending = c :: rest) :
    step s = exec c { s with pending := rest } := by
  unfold step
  rw [h]

/-- A step on an empty queue takes the next request of the pixel in hand. -/
theorem step_nil (s : State) (h : s.pending = []) : step s = .next s.servePixel := by
  unfold step
  rw [h]

/-- A step on an empty queue with no pixel in hand idles. -/
theorem step_idle (s : State) (h : s.pending = []) (hand : s.inHand = none) : step s = .next s := by
  rw [step_nil s h, State.servePixel_none s hand]

end Sys2Proof.Machine
end

