-- ==== Sys2Proof/Tests/Slice0.lean ====
section
/-! SUPPORT. Small tests: the static check, each command on one small state, worked values of the spec, and for every statement with hypotheses a concrete state and operands that meet them, clause by clause at the edges of their ranges. -/

namespace Sys2Proof.Tests
open Sys2Proof.Machine
set_option Elab.async false

/-! ### Small states -/

/-- The state a command leaves. -/
def after (c : Instr) (s : State) : State :=
  match exec c s with
  | .next t => t
  | .fault _ => s
  | .refused _ => s

/-- The payload of the reply stored last. -/
def replied (s : State) : List Byte := (s.link.lastReply.map (fun x => x.reply.payload)).getD []

/-- A ready part with the input stopped at 16 × 2. -/
def base : State :=
  { State.reset with
    readiness := .ready
    framer := { Framer.reset with width := 16, height := 2 }
    link := { Link.reset with rxd := .high } }

/-- The Framer in state `st` with the followed levels. -/
def at_ (st : FramerState) (fv lv : Level) (s : State) : State :=
  { s with framer := { s.framer with state := st, fv := fv, lv := lv } }

/-- The Framer within a frame: lines ended and pixels taken. -/
def counts (lines pixels : Nat) (s : State) : State :=
  { s with framer := { s.framer with linesDone := lines, pixelCount := pixels } }

/-- A request of kind `k` with tag 1. -/
def req (k : ReqKind) (p : List Byte) : Request := { kind := k.code, tag := 1, payload := p }

/-- The request stands alone in the request queue. -/
def ask (k : ReqKind) (p : List Byte) (s : State) : State :=
  { s with link := { s.link with requests := [req k p] } }

/-- A small definition: 4 × 2 with column step 2, so 2 × 2 pixels of output. -/
def small : RegionDef :=
  { x0 := 0, y0 := 0, width := 4, height := 2, colStep := 2, rowStep := 1, stride := 2, mode := .continuous,
    route := .link, depth := 1, reserve := 1, limit := 2, policy := .keepOld, label := some 7 }

/-- Region 0 ARMED with definition `d`. -/
def armed (d : RegionDef) (s : State) : State :=
  s.setEntry 0 { ActiveEntry.reset with definition := some d, run := .armed, remaining := 1 }

/-- A capture of region 0 in record `slot`: 2 × 2 bytes in block `slot`. -/
def cap (slot : Nat) (route : Route) (fill : Fill) (delivery : Delivery) : Capture :=
  { slot := slot, region := 0, seq := 5, frame := 1, outW := 2, outH := 2, bpp := 1, route := route, label := some 7,
    bytesExpected := 4, bytesWritten := 4, fill := fill, delivery := delivery, chain := [slot], bytesSent := 0,
    abandonReason := none }

/-- The Directory holds the captures; the blocks below `n` are theirs. -/
def holding (cs : List Capture) (n : Nat) (s : State) : State :=
  { s with captures := cs, memory := { freePool := (List.range 512).drop n, cells := [] } }

/-- Drain A streaming record 0 at position `p` with DxRQ high. -/
def streaming (p : Position) (burst : Nat) (s : State) : State :=
  { s with drainA := { Drain.reset with
      state := .streaming, queue := [0], grain := 8, timeout := 5, timer := .running, burst := burst, position := some p
      rq := .high } }

/-- A COMPLETE head of drain A. -/
def headDone : Capture := cap 0 (.drain .a) .complete .active

/-- A FILLING head of drain A. -/
def headFilling : Capture := cap 0 (.drain .a) .filling .active

/-- A drain state with an empty queue. -/
def drainIn (st : DrainState) (s : State) : State := { s with drainA := { Drain.reset with state := st } }

/-- The receiver's state. -/
def receiving (r : Receiver) (s : State) : State := { s with link := { s.link with receiver := r } }

/-- The notice set. -/
def noticing (ns : List Notice) (l : Link) : Link := { l with notices := ns }

/-- The reply queue. -/
def replying (n : Nat) (l : Link) : Link := { l with replies := List.replicate n { kind := 0x81, tag := 1, payload := [0x00] } }

/-- The request just asked is served. -/
theorem ask_serves (k : ReqKind) (p : List Byte) (s : State) (hp : p.length = k.payloadLength)
    (hr : s.link.replies = []) (hl : s.link.lastReply = none) : (ask k p s).ServesNext k (req k p) := by
  refine ⟨rfl, rfl, hp, ?_, ?_⟩
  · show s.link.replies.length < 4
    simp [hr]
  · intro stored h
    have h' : s.link.lastReply = some stored := h
    simp [hl] at h'

/-! ### The static check, the decoder, the queue -/

theorem test_lenRefused_in_range_is_ill_formed :
    (Instr.lenRefused 2).wellFormed = false ∧ (Instr.lenRefused 250).wellFormed = false ∧
    (Instr.lenRefused 0).wellFormed = true ∧ (Instr.lenRefused 1).wellFormed = true ∧
    (Instr.lenRefused 251).wellFormed = true ∧ (Instr.pixel 0xFFF).wellFormed = true := by decide

theorem test_no_word_spells_a_command : decodeTableWord 8 0 = none ∧ State.reset.withFetchWord 8 0 = State.reset := by
  decide +kernel

theorem test_step_takes_the_front :
    step { base with pending := [.pinReset, .identify] } = .next (({ base with pending := [.identify] } : State).partReset .pin) :=
  rfl

/-! ### Worked values of the spec -/

/-- R160. -/
theorem test_crc_check_value : crc [0x31, 0x32, 0x33, 0x34, 0x35, 0x36, 0x37, 0x38, 0x39] = 0x29B1 := by decide +kernel

/-- 9.8: the DEFINE_REGION payload of the example, and its refusal with a bad route byte. -/
def example98 : List Byte :=
  [0x02, 0x40, 0x02, 0x64, 0x00, 0x40, 0x00, 0x20, 0x00, 0x01, 0x01, 0x01, 0x00, 0x00, 0x00, 0x01, 0x04, 0x08, 0x00, 0x20,
   0x00, 0x00, 0x01, 0x23, 0x01]

theorem test_define_region_example :
    let t := after .defineRegion (ask .defineRegion example98 base)
    replied t = [0x00] ∧
    t.table.staged[(2 : RegionId)] = some
      { x0 := 576, y0 := 100, width := 64, height := 32, colStep := 1, rowStep := 1, stride := 1, mode := .continuous,
        route := .drain .a, depth := 4, reserve := 8, limit := 32, policy := .keepOld, label := some 0x0123 } ∧
    replied (after .defineRegion (ask .defineRegion (example98.set 15 0x03) base)) = [0x03, 10] := by decide +kernel

/-- R10: a limit of 40 with a reserve of 64 is index 13; col_step 3 is index 5. -/
theorem test_define_region_refusals :
    replied (after .defineRegion (ask .defineRegion ((example98.set 17 64).set 19 40) base)) = [0x03, 13] ∧
    replied (after .defineRegion (ask .defineRegion (example98.set 9 3) base)) = [0x03, 5] := by decide +kernel

/-- 4.6: the four held counts before the pixel, the grants to regions 1 and 2, the refusal, discard and grant of region 4. -/
def example46 : State :=
  let entry (reserve limit : Nat) (policy : Policy) : ActiveEntry :=
    { ActiveEntry.reset with
      definition := some { small with reserve := reserve, limit := limit, policy := policy }, run := .armed }
  let c (slot : Nat) (r : RegionId) (fill : Fill) (delivery : Delivery) (first n : Nat) : Capture :=
    { cap slot .link fill delivery with region := r, chain := (List.range n).map (fun i => first + i) }
  ((((holding
    [c 0 1 .filling .waiting 0 99, c 1 2 .filling .waiting 99 31, c 2 2 .complete .active 130 260,
     c 3 4 .complete .active 390 20, c 4 4 .complete .waiting 410 20, c 5 4 .filling .waiting 430 20,
     c 6 7 .complete .active 450 25] 475 base).setEntry 1 (entry 100 200 .keepOld)).setEntry 2 (entry 0 400 .keepOld)).setEntry 4
    (entry 50 60 .keepNew)).setEntry 7 (entry 60 80 .keepOld)

theorem test_allocation_example :
    let a := State.requestBlock 1 0 (example46.discardable 1) example46
    let b := State.requestBlock 2 1 (a.1.discardable 2) a.1
    let c := State.requestBlock 4 5 (b.1.discardable 4) b.1
    (example46.freeCount = 37 ∧ example46.unmetTotal = 36) ∧
    (a.2 = true ∧ a.1.freeCount = 36 ∧ a.1.unmetTotal = 35) ∧
    (b.2 = true ∧ b.1.freeCount = 35 ∧ b.1.held 2 = 292) ∧
    (c.2 = true ∧ c.1.freeCount = 54 ∧ c.1.held 4 = 41 ∧ c.1.unmetTotal = 44 ∧
      c.1.link.frameOnLine = some (frameBytes 0x42 0 [0x04, 0x01, 0x04])) := by decide +kernel

/-! ### Each command on one small state -/

theorem test_frame_start_opens :
    let t := after .frameStart (armed small (at_ .waiting .low .low base))
    t.framer.state = .inFrame ∧ t.framer.frameNumber = 1 ∧ (t.entry 0).nextSeq = 1 ∧ (t.entry 0).phase = 1 ∧
    t.captures.length = 1 ∧ (t.openCapture 0).isSome = true := by decide +kernel

theorem test_line_start_at_h_is_frame_long :
    (after .lineStart (counts 2 0 (at_ .inFrame .high .low base))).framer.state = .skipping ∧
    (after .lineStart (counts 1 9 (at_ .inFrame .high .low base))).framer.pixelCount = 0 ∧
    (after .lineStart (at_ .waiting .low .low base)).framer.errors.strayLine = 1 := by decide +kernel

theorem test_pixel_is_stored :
    let t := after (.pixel 0xABC) (after .lineStart (after .frameStart (armed small (at_ .waiting .low .low base))))
    t.memory.cells = [(0, 0xBC)] ∧ t.freeCount = 511 ∧ t.framer.pixelCount = 1 := by decide +kernel

/-- R74: a pixel at the first byte of the captures of regions 0 and 1, with one block free and one in region 2's fetched capture. -/
def contested : State :=
  let fresh (slot : Nat) (r : RegionId) : Capture :=
    { cap slot .link .filling .waiting with region := r, bytesWritten := 0, chain := [] }
  let fetched : Capture := { cap 2 .link .complete .active with region := 2, chain := [510] }
  (armed small (holding [fresh 0 0, fresh 1 1, fetched] 511 (counts 0 0 (at_ .inFrame .high .high base)))).setEntry 1
    { ActiveEntry.reset with definition := some small, run := .armed }

theorem test_free_between_two_requests_of_a_pixel :
    let one := after (.pixel 5) contested
    let freed := after .release (ask .release [2, 5, 0] one)
    (one.inHand.map (fun p => p.rest.length) = some 15 ∧ one.freeCount = 0 ∧ freed.freeCount = 1) ∧
    (freed.servePixel.inHand = none ∧ freed.servePixel.captures.map Capture.bytesWritten = [1, 1] ∧
      (after (.pixel 6) freed).captures.map Capture.bytesWritten = [1, 1]) ∧
    (one.servePixel.inHand = none ∧ one.servePixel.captures.map Capture.slot = [0, 2] ∧ (one.servePixel.entry 1).lost = 1 ∧
      (after (.pixel 6) one).captures.map Capture.slot = [0, 2]) := by decide +kernel

theorem test_pixel_past_w_is_line_long :
    (after (.pixel 0) (counts 0 16 (at_ .inFrame .high .high base))).framer.errors.lineLong = 1 ∧
    (after (.pixel 0) (counts 0 16 (at_ .inFrame .high .high base))).framer.state = .skipping := by decide +kernel

theorem test_line_end_checks_w :
    (after .lineEnd (counts 0 15 (at_ .inFrame .high .high base))).framer.errors.lineShort = 1 ∧
    (after .lineEnd (counts 0 16 (at_ .inFrame .high .high base))).framer.linesDone = 1 := by decide +kernel

theorem test_line_end_completes_link_capture :
    let s := armed small (holding [cap 0 .link .filling .waiting] 1 (counts 1 16 (at_ .inFrame .high .high base)))
    (after .lineEnd s).captures.map Capture.fill = [.complete] ∧ ((after .lineEnd s).entry 0).completed = 1 ∧
    (after .lineEnd s).link.frameOnLine = some (frameBytes 0x41 0 [0x00]) := by decide +kernel

theorem test_frame_end_short_and_clean :
    (after .frameEnd (counts 1 0 (at_ .inFrame .high .low base))).framer.errors.frameShort = 1 ∧
    (after .frameEnd (counts 2 0 (at_ .inFrame .high .low base))).framer.errors.frameShort = 0 ∧
    (after .frameEnd (counts 2 0 (at_ .inFrame .high .low base))).framer.state = .waiting := by decide +kernel

theorem test_identify :
    (replied (after .identify (ask .identify [] base))).length = 17 ∧
    (after .identify (ask .identify [] base)).link.transmitter = .sendingReply := by decide +kernel

theorem test_status : (replied (after .status (ask .status [] base))).take 13 = [0, 0, 0, 0, 0, 0, 0, 0, 16, 0, 2, 0, 8] := by
  decide +kernel

theorem test_reset_request_then_frame_sent :
    let t := after .reset (ask .reset [] (noticing [.done 0] base.link |> fun l => { base with link := l }))
    t.link.resetPending = true ∧ t.link.notices = [] ∧ (after .frameSent t).readiness = .resetting .request := by
  decide +kernel

theorem test_set_input :
    replied (after .setInput (ask .setInput [0x0F, 0x00, 0x02, 0x00, 0x08] base)) = [0x03, 0x00] ∧
    (after .setInput (ask .setInput [0x10, 0x00, 0x01, 0x00, 0x0C] base)).framer.depth = .bits12 := by decide +kernel

theorem test_start_input : (after .startInput (ask .startInput [] base)).framer.state = .waiting := by decide +kernel

theorem test_stop_input_now :
    let t := after .stopInputNow (ask .stopInput [0x00] (holding [cap 0 .link .filling .waiting] 1 (at_ .inFrame .high .low base)))
    t.framer.state = .stopped ∧ t.captures = [] ∧ replied t = [0x00, 0x00, 0x00] ∧ t.freeCount = 512 := by decide +kernel

theorem test_stop_input_frame_end :
    (after .stopInputFrameEnd (ask .stopInput [0x01] (at_ .inFrame .high .low base))).framer.stopPending = true ∧
    replied (after .stopInputFrameEnd (ask .stopInput [0x02] base)) = [0x03, 0x00] := by decide +kernel

/-- Region 0 has the small definition staged. -/
def staged (d : RegionDef) (s : State) : State := { s with table := { s.table with staged := s.table.staged.set 0 (some d) } }

theorem test_clear_region : (after .clearRegion (ask .clearRegion [0x00] (staged small base))).table.staged[(0 : RegionId)] = none := by
  decide +kernel

theorem test_get_region :
    (replied (after .getRegion (ask .getRegion [0x00, 0x00] (staged small base)))).take 8 = [0, 0, 0, 1, 0, 0, 0, 0] ∧
    (replied (after .getRegion (ask .getRegion [0x00, 0x01] (staged small base)))).length = 38 := by decide +kernel

theorem test_commit :
    ((after .commit (ask .commit [] (staged small base))).entry 0).run = .armed ∧
    replied (after .commit (ask .commit [] (staged { small with width := 17 } base))) = [0x0A, 0x00, 0x01] ∧
    (after .commit (ask .commit [] (staged small (at_ .waiting .low .low base)))).table.commitPending = true := by decide +kernel

theorem test_cancel_commit : replied (after .cancelCommit (ask .cancelCommit [] base)) = [0x04] := by decide +kernel

theorem test_halt_region : ((after .haltRegion (ask .haltRegion [0x00] (armed small base))).entry 0).run = .halted := by
  decide +kernel

theorem test_region_status :
    replied (after .regionStatus (ask .regionStatus [0x00] (armed small (holding [cap 0 .link .complete .waiting] 1 base)))) =
      [0, 0, 1, 0, 1, 0, 0, 0, 0, 0, 0, 0, 1, 0, 0, 0, 1, 0, 0, 0, 1, 5, 0, 0, 2] := by decide +kernel

theorem test_fetch :
    replied (after .fetch (ask .fetch [0x00] (holding [cap 0 .link .complete .waiting] 1 base))) =
      [0, 0, 5, 0, 1, 0, 0, 0, 2, 0, 2, 0, 1, 1, 7, 0, 4, 0, 0, 0, 0] ∧
    replied (after .fetch (ask .fetch [0x00] base)) = [0x09] := by decide +kernel

theorem test_read :
    let s := { holding [cap 0 .link .complete .active] 1 base with
      memory := { freePool := (List.range 512).drop 1, cells := [(0, 0x11), (1, 0x22), (2, 0x33), (3, 0x44)] } }
    replied (after .read (ask .read [0, 5, 0, 1, 0, 0, 0, 3] s)) = [0x00, 0x22, 0x33, 0x44] ∧
    replied (after .read (ask .read [0, 5, 0, 2, 0, 0, 0, 3] s)) = [0x07, 4, 0, 0, 0] := by decide +kernel

theorem test_release :
    (after .release (ask .release [0, 5, 0] (holding [cap 0 .link .complete .active] 1 base))).freeCount = 512 ∧
    replied (after .release (ask .release [0, 6, 0] (holding [cap 0 .link .complete .active] 1 base))) = [8, 1, 5, 0] := by
  decide +kernel

theorem test_flush :
    let t := after .flush (ask .flush [0x00] (holding [cap 0 .link .complete .active, cap 1 .link .complete .waiting] 2 base))
    t.captures.map Capture.slot = [0] ∧ (t.entry 0).lost = 1 ∧ replied t = [0x00, 0x01] := by decide +kernel

theorem test_set_drain_enable :
    replied (after .setDrainEnable (ask .setDrain [0, 0, 8, 250] base)) = [0x00, 0x01] ∧
    replied (after .setDrainEnable (ask .setDrain [0, 0, 9, 250] base)) = [0x03, 0x02] := by decide +kernel

theorem test_set_drain_disable :
    replied (after .setDrainDisable (ask .setDrain [0, 1, 8, 0] (streaming (.header 0) 8 (holding [headDone] 1 base)))) = [0x00, 0x03] := by
  decide +kernel

theorem test_set_drain_abort :
    let t := after .setDrainAbort (ask .setDrain [0, 2, 8, 0] (streaming (.header 0) 8 (holding [headDone] 1 base)))
    replied t = [0x00, 0x00] ∧ t.captures = [] ∧ (t.entry 0).lost = 1 ∧ t.drainA.rq = .low := by decide +kernel

theorem test_drain_status :
    (replied (after .drainStatus (ask .drainStatus [0] (streaming (.data 1) 8 (holding [headDone] 1 base))))).take 14 =
      [0, 0, 2, 1, 1, 0, 5, 0, 1, 1, 1, 0, 0, 0] := by decide +kernel

theorem test_pool_status :
    (replied (after .poolStatus (ask .poolStatus [] (holding [headDone] 1 base)))).take 8 = [0, 0xFF, 0x01, 47, 0, 0, 1, 0] := by
  decide +kernel

theorem test_set_notices :
    let s : State := { base with link := noticing [.ready 3, .done 3] { base.link with transmitter := .sendingNotice (.drain .a) } }
    (after .setNotices (ask .setNotices [1, 0, 0, 0, 0, 0, 0] s)).link.notices = [.done 3] ∧
    replied (after .setNotices (ask .setNotices [1, 0, 2, 3, 0, 0, 0] s)) = [0x03, 0x02] := by decide +kernel

/-- A request of no known kind. -/
def unknown : State := { base with link := { base.link with requests := [{ kind := 0x05, tag := 9, payload := [] }] } }

theorem test_unknown_request :
    (after .unknownRequest unknown).link.frameOnLine = some (frameBytes 0x85 9 [0x01]) := by decide +kernel

theorem test_replay :
    let s := after .startInput (ask .startInput [] base)
    let t := after .replay (ask .startInput [] s)
    t.framer.state = .waiting ∧ t.link.replies.length = 2 ∧ t.link.requests = [] ∧ replied t = [0x00] := by decide +kernel

/-- The bytes of a STATUS request with tag 1 on RXD, but for the second CRC byte. -/
def statusTaken : State :=
  (frameBytes 0x02 0x01 []).dropLast.foldl (fun s b => after (.frameByteTaken b) s) base

theorem test_request_frame :
    (after (.requestFrame ((frameBytes 0x02 0x01 []).getLastD 0)) statusTaken).link.requests = [req .status []] ∧
    (after (.requestFrame 0x00) statusTaken).link.receiveDiscards = 1 := by decide +kernel

theorem test_framing_error_and_gap_timer :
    (after .framingError (receiving .length base)).link.receiveDiscards = 1 ∧
    (after .framingError base).link.receiveDiscards = 0 ∧
    (after .gapTimerExpiry (receiving .length base)).link.receiver = .hunt := by decide +kernel

theorem test_len_refused :
    (after (.lenRefused 251) (receiving .length base)).link.receiveDiscards = 1 ∧
    after (.lenRefused 2) (receiving .length base) = receiving .length base := by decide +kernel

theorem test_link_break_returns_fetched :
    (after .linkBreak (holding [cap 0 .link .complete .active] 1 base)).captures = [cap 0 .link .complete .waiting] ∧
    (after .rxdReturnsHigh (after .linkBreak base)).link.rxd = .high := by decide +kernel

theorem test_pin_reset_then_started :
    (after (.partReady 2 .high) (after .pinReset base)).link.frameOnLine = some (frameBytes 0x40 0 [0x00, 0x03]) := by
  decide +kernel

theorem test_take :
    (streaming (.header 0) 8 (holding [headDone] 1 base)).presentedWord .a = some 0x5AC3 ∧
    (after (.take .a) (streaming (.header 0) 8 (holding [headDone] 1 base))).drainA.position = some (.header 1) ∧
    (after (.take .a) (streaming (.trailer 1) 1 (holding [headDone] 1 base))).drainA.state = .idle ∧
    (after (.take .b) base).drainB.stray = 1 := by decide +kernel

theorem test_stall_timer_expiry :
    let t := after (.stallTimerExpiry .a) (streaming (.header 0) 8 (holding [headDone] 1 base))
    t.drainA.state = .fault ∧ t.captures = [] ∧ t.link.notices = [.drain .a] := by decide +kernel

/-! ### The hypotheses of the statements are met -/

/-- ResetsFreeEverythingBreakKeepsMemory: the end of the RESET reply; a break with a fetched and a COMPLETE link capture. -/
theorem test_hyps_resets :
    (let s := after .reset (ask .reset [] base)
     s.link.transmitter = .sendingReply ∧ s.link.resetPending = true ∧
     s.link.replies.head? = some { kind := 0x83, tag := 1, payload := [0x00] }) ∧
    (let s := holding [cap 0 .link .complete .active] 1 base
     s.link.resetPending = false ∧ s.readiness = .ready ∧ s.link.rxd ≠ .broken ∧
     (cap 0 .link .complete .active) ∈ s.captures) := by decide +kernel

/-- StoppedFramerFollowsLevelsOnly. -/
theorem test_hyps_stopped :
    (base.framer.state = .stopped ∧ base.framer.fv = .low ∧ base.framer.lv = .low ∧ base.inHand = none) ∧
    (at_ .stopped .high .high base).framer.state = .stopped ∧ (at_ .stopped .high .high base).framer.fv = .high ∧
    (ask .setInput [16, 0, 1, 0, 8] (at_ .waiting .low .low base)).ServesNext .setInput (req .setInput [16, 0, 1, 0, 8]) ∧
    (ask .setInput [16, 0, 1, 0, 8] base).ServesNext .setInput (req .setInput [16, 0, 1, 0, 8]) :=
  ⟨by decide +kernel, by decide +kernel, by decide +kernel, ask_serves _ _ _ rfl rfl rfl, ask_serves _ _ _ rfl rfl rfl⟩

/-- WaitingFramerCountsStrayLines: the four pairs of levels, at H = 1. -/
theorem test_hyps_waiting :
    let s (fv lv : Level) : State := { at_ .waiting fv lv base with framer := { (at_ .waiting fv lv base).framer with height := 1 } }
    (∀ fv ∈ [Level.low, .high], ∀ lv ∈ [Level.low, .high],
      (s fv lv).framer.state = .waiting ∧ (s fv lv).framer.fv = fv ∧ (s fv lv).framer.lv = lv ∧ (s fv lv).inHand = none ∧
        1 ≤ (s fv lv).framer.height) := by
  decide +kernel

/-- FrameStartNumbersAppliesEvaluates and FrameStartMovesPhaseAndSequence: a frame start that applies a commit, with LV low and with
LV high; a due region, a region between its frames and a HALTED region; the record it opens is new. -/
theorem test_hyps_frame_start :
    (∀ lv ∈ [Level.low, .high],
      let s := (staged small (at_ .waiting .low lv base)).setCommitPending true
      s.framer.state = .waiting ∧ s.framer.fv = .low ∧ s.framer.lv = lv ∧ s.inHand = none ∧ 1 ≤ s.framer.height ∧
      s.table.commitPending = true ∧
      (after .frameStart s).captures ≠ [] ∧ s.captures = []) ∧
    (let s := armed small (at_ .waiting .low .low base)
     s.table.commitPending = false ∧ s.inHand = none ∧ (s.entry 0).definition = some small ∧ (s.entry 0).run = .armed ∧ (s.entry 0).phase = 0 ∧
     small.mode = .continuous ∧ (s.entry 1).run ≠ .armed) ∧
    (let e : ActiveEntry := { ActiveEntry.reset with definition := some { small with mode := .count 1 }, run := .armed, remaining := 1 }
     (e.phase = 0 ∧ e.remaining ≠ 0) ∧ ({ e with phase := 1 } : ActiveEntry).phase ≠ 0 ∧
     ({ e with run := .halted } : ActiveEntry).run ≠ .armed) := by decide +kernel

/-- DueRegionOpensSkipsOrDiscards: below the depth; at the depth under KEEP_OLD; under KEEP_NEW with one WAITING and with none. -/
theorem test_hyps_due :
    (let s := armed small (at_ .waiting .low .low base)
     s.framer.state = .waiting ∧ s.framer.fv = .low ∧ s.inHand = none ∧ 1 ≤ s.framer.height ∧ s.table.commitPending = false ∧
     (s.entry 0).definition = some small ∧ (s.entry 0).run = .armed ∧ (s.entry 0).phase = 0 ∧ s.completeCount 0 < small.depth ∧
     16 ≤ s.freeRecords.length ∧ (∀ x ∈ s.captureList 0, x.fill ≠ .filling)) ∧
    (let s := armed small (holding [cap 0 .link .complete .waiting] 1 base)
     s.RecordsDistinct ∧ small.depth ≤ s.completeCount 0 ∧ small.policy = .keepOld) ∧
    (let d := { small with policy := Policy.keepNew }
     let s := armed d (holding [cap 0 .link .complete .waiting] 1 base)
     s.RecordsDistinct ∧ (s.entry 0).definition = some d ∧ d.depth ≤ s.completeCount 0 ∧
     s.completeCount 0 - min (s.candidates 0).length (s.completeCount 0 + 1 - d.depth) < d.depth) ∧
    (let d := { small with policy := Policy.keepNew }
     let s := armed d (holding [cap 0 .link .complete .active] 1 base)
     s.RecordsDistinct ∧ d.depth ≤ s.completeCount 0 - min (s.candidates 0).length (s.completeCount 0 + 1 - d.depth)) := by
  decide +kernel

/-- DueRegionOpensSkipsOrDiscards, a region below its depth: with one free record, and with none, where it is charged NO_RECORD. -/
theorem test_hyps_due_records :
    let s (n : Nat) := armed small (holding ((List.range n).map fun i =>
      { cap i .link .complete .waiting with region := 1, chain := [] }) 0 base)
    (∀ n ∈ [47, 48], (s n).RecordsDistinct ∧ (s n).completeCount 0 < small.depth ∧ (s n).freeRecords.length = 48 - n) ∧
    ((s 48).evaluateRegion 0).captures = (s 48).captures ∧
    ((s 48).evaluateRegion 0).link.frameOnLine = some (frameBytes 0x42 0 [0x00, 0x01, 0x02]) := by decide +kernel

/-- LineStartAndEndCheckGeometry, PixelCountedAndHandedToRegions: the last line and one line more; W - 1, W pixels. -/
theorem test_hyps_lines_and_pixels :
    (let s (n : Nat) := counts n 0 (at_ .inFrame .high .low base)
     (s 1).inHand = none ∧ (s 2).inHand = none ∧ (s 1).framer.state = .inFrame ∧ (s 1).framer.lv = .low ∧ (s 1).framer.linesDone < (s 1).framer.height ∧
     (s 2).framer.height ≤ (s 2).framer.linesDone ∧ ∀ c ∈ (s 2).captures, c.fill ≠ .filling) ∧
    (let s (n : Nat) := counts 0 n (at_ .inFrame .high .high base)
     (s 15).inHand = none ∧ (s 16).inHand = none ∧ (s 15).framer.state = .inFrame ∧ (s 15).framer.lv = .high ∧ (s 15).framer.pixelCount < (s 15).framer.width ∧
     (s 16).framer.width ≤ (s 16).framer.pixelCount) ∧
    (let one := after (.pixel 5) contested
     contested.inHand = none ∧ contested.framer.pixelCount < contested.framer.width ∧ one.inHand.isSome = true ∧
     one.pending = [] ∧ one.framer.state = .inFrame ∧ atPixelPort (.take .a) = false ∧ atPixelPort .lineEnd = true) ∧
    (armed small base).regionSamples 0 2 1 = true ∧ (armed small base).regionSamples 0 3 1 = false ∧
    (armed small base).regionSamples 0 4 0 = false := by decide +kernel

/-- FrameEndAndEntriesInOrder: clean, short and skipped frames, with a stop pending and without, and a frame end that ends a line. -/
theorem test_hyps_frame_end :
    (let s (n : Nat) (stop : Bool) : State :=
       { counts n 0 (at_ .inFrame .high .low base) with
         framer := { (counts n 0 (at_ .inFrame .high .low base)).framer with stopPending := stop } }
     ∀ stop ∈ [true, false], (s 2 stop).inHand = none ∧ (s 1 stop).inHand = none ∧ (s 2 stop).framer.fv = .high ∧ (s 2 stop).framer.height ≤ (s 2 stop).framer.linesDone ∧
       (s 1 stop).framer.linesDone < (s 1 stop).framer.height ∧ (s 1 stop).framer.stopPending = stop) ∧
    (at_ .skipping .high .low base).inHand = none ∧ (at_ .skipping .high .low base).framer.state = .skipping ∧ (at_ .skipping .high .low base).framer.lv = .low ∧
    (let s := counts 1 16 (at_ .inFrame .high .high base)
     s.framer.fv = .high ∧ (s.framer.lv = .high ∧ s.inHand = none) ∧ exec .lineEnd s = .next (after .lineEnd s)) := by
  refine ⟨?_, ?_, ?_, ?_, ?_, ?_, rfl⟩ <;> decide +kernel

/-- The pool law of a state whose captures hold the first `n` blocks in order. -/
theorem pool_of_prefix (s : State) (n : Nat) (hp : s.memory.freePool = (List.range 512).drop n)
    (hc : s.chainBlocks = (List.range 512).take n) : s.PoolLaw := by
  show (s.memory.freePool ++ s.chainBlocks).Perm (List.range 512)
  rw [hp, hc]
  exact (List.perm_append_comm).trans (by rw [List.take_append_drop])

/-- A capture that fills, with `n` bytes written, its blocks the first `k`. -/
def fillingAt (n k bpp : Nat) : Capture :=
  { cap 0 .link .filling .waiting with bytesExpected := 2048, bytesWritten := n, bpp := bpp, chain := List.range k }

/-- PixelBytesLandInOrder: the last byte of a block, the last pixel of a block at two bytes, the first byte of a block. -/
theorem test_hyps_pixel_bytes :
    let s (n k bpp : Nat) := armed small (holding [fillingAt n k bpp] k base)
    ∀ x ∈ [(511, 1, 1), (510, 1, 2), (512, 1, 1), (0, 0, 1)],
      let u := s x.1 x.2.1 x.2.2
      u.PoolLaw ∧ u.RecordsDistinct ∧ u.WholePixels ∧ u.CellsCanonical ∧
      u.openCapture 0 = some (fillingAt x.1 x.2.1 x.2.2) ∧
      (x.1 % 512 = 0 → (State.requestBlock 0 0 (u.discardable 0) u).2 = true) ∧ (x.1 % 512 ≠ 0 → List.range x.2.1 ≠ []) ∧
      (fillingAt x.1 x.2.1 x.2.2).chain.length = ceilDiv x.1 512 - 0 / 512 := by
  intro s x hx
  refine ⟨pool_of_prefix _ x.2.1 ?_ ?_, ?_⟩ <;> revert x <;> decide +kernel

/-- PixelBytesLandInOrder: a pixel whose block request is refused at the limit and granted by the KEEP_NEW loop. -/
theorem test_hyps_pixel_bytes_after_discard :
    let s := armed { small with policy := Policy.keepNew, limit := 1 }
      (holding [cap 0 .link .complete .waiting, { fillingAt 0 0 1 with slot := 1 }] 1 base)
    s.PoolLaw ∧ s.RecordsDistinct ∧ s.WholePixels ∧ s.CellsCanonical ∧
    s.openCapture 0 = some { fillingAt 0 0 1 with slot := 1 } ∧ s.grantable 0 = false ∧
    (State.requestBlock 0 1 (s.discardable 0) s).2 = true :=
  ⟨pool_of_prefix _ 1 (by decide +kernel) (by decide +kernel), by decide +kernel⟩

/-- BlockRequestGrantedOrRefused and GrantsAndFreesKeepReserveCover: granted below the reserve and above it, refused at the limit and
where the others' unmet reserves need the rest; an abandonment for want of blocks. -/
theorem test_hyps_blocks :
    (let s := armed small (holding [fillingAt 0 0 1] 0 base)
     s.RecordsDistinct ∧ fillingAt 0 0 1 ∈ s.captures ∧ s.held 0 < (s.entry 0).reserve ∧ s.grantable 0 = true ∧
     s.unmetTotal ≤ s.freeCount) ∧
    (let s := armed small (holding [fillingAt 512 1 1] 1 base)
     (s.entry 0).reserve ≤ s.held 0 ∧ s.grantable 0 = true) ∧
    (let s := armed small (holding [fillingAt 1024 2 1] 2 base)
     (s.entry 0).limit ≤ s.held 0 ∧ s.grantable 0 = false ∧ (1024 : Nat) % 512 = 0 ∧
     s.openCapture 0 = some (fillingAt 1024 2 1) ∧ (State.requestBlock 0 0 (s.discardable 0) s).2 = false ∧
     small.policy = .keepOld) ∧
    (let s := (armed small (holding [fillingAt 512 1 1] 1 base)).setEntry 1
       { ActiveEntry.reset with definition := some { small with reserve := 511 }, run := .armed }
     s.held 0 < (s.entry 0).limit ∧ s.freeCount = 511 ∧ s.unmetOthers 0 = 511 ∧ s.grantable 0 = false) ∧
    (let d := { small with policy := Policy.keepNew, limit := 1 }
     let s := armed d (holding [cap 1 .link .complete .waiting] 1 base)
     (s.entry 0).definition = some d ∧ s.discardable 0 = [cap 1 .link .complete .waiting] ∧ s.grantable 0 = false ∧
     (s.discard (cap 1 .link .complete .waiting)).grantable 0 = true) := by decide +kernel

/-- GrantsAndFreesKeepReserveCover: a take that frees the block that it ends, and the abandonment of an ACTIVE head, with the cover at its
edge. -/
theorem test_hyps_cover :
    let tight (s : State) := (armed { small with reserve := 2 } s).setEntry 1
      { ActiveEntry.reset with definition := some { small with reserve := 510, limit := 512 }, run := .armed }
    let s := tight (streaming (.data 1) 2 (holding [headDone] 1 base))
    s.RecordsDistinct ∧ s.unmetTotal = s.freeCount ∧ headDone ∈ s.captures ∧
    (after (.take .a) s).freeCount = 512 ∧ (after (.take .a) s).unmetTotal = 512 ∧
    (let h := tight (streaming (.data 0) 2 (holding [headFilling] 1 base))
     h.RecordsDistinct ∧ h.unmetTotal = h.freeCount ∧ headFilling ∈ h.captures ∧ h.grantable 0 = true) ∧
    exec (.take .a) s = .next (after (.take .a) s) :=
  by refine ⟨?_, ?_, ?_, ?_, ?_, ?_, rfl⟩ <;> decide +kernel

/-- LastRowEndCompletesCapture: row 0, with its 2 bytes written, and the last row with all of them; no open capture; and rows 0 and 1 of a 2-row region in CONTINUOUS and COUNT mode, on the link and as a drain head. -/
theorem test_hyps_last_row :
    (let s := armed small (holding [cap 0 .link .filling .waiting] 1 base)
     s.openCapture 0 = some (cap 0 .link .filling .waiting) ∧ (s.entry 0).definition = some small ∧
     (cap 0 .link .filling .waiting).bytesWritten = (cap 0 .link .filling .waiting).bytesExpected ∧
     1 = small.y0 + (2 - 1) * small.rowStep) ∧
    (let c := { cap 0 .link .filling .waiting with bytesWritten := 2 }
     let s := armed small (holding [c] 1 (counts 0 16 (at_ .inFrame .high .high base)))
     s.openCapture 0 = some c ∧ (s.entry 0).definition = some small ∧ c.bytesWritten < c.bytesExpected ∧
     0 ≠ small.y0 + (c.outH - 1) * small.rowStep ∧ (armed small base).openCapture 0 = none ∧
     c.bytesWritten = small.sampledBefore s.framer.column s.framer.linesDone) ∧
    (let d := { small with mode := Mode.count 1, route := .drain .a }
     let s := { armed d (streaming (.data 0) 8 (holding [headFilling] 1 base)) with
       drainA := { (streaming (.data 0) 8 base).drainA with rq := .low, burst := 0, timer := .stopped } }
     s.openCapture 0 = some headFilling ∧ (s.entry 0).run = .armed ∧ (s.entry 0).completed + 1 = 1 ∧
     (s.entry 0).completed + 1 ≠ 2 ∧ headFilling.delivery = .active ∧ s.drainA.rq = .low) := by decide +kernel

/-- AbandonmentReturnsBlocks, FreedCaptureReturnsBlocksAndRecord, HaltRegionAbandonsFillingCapture. -/
theorem test_hyps_abandonment :
    (let s := armed small (holding [cap 0 .link .filling .waiting] 1 base)
     s.RecordsDistinct ∧ cap 0 .link .filling .waiting ∈ s.captures ∧ (s.entry 0).run = .armed ∧
     s.openCapture 0 = some (cap 0 .link .filling .waiting) ∧ (armed small base).openCapture 0 = none) ∧
    (let s := streaming (.data 0) 8 (holding [headFilling] 1 base)
     s.RecordsDistinct ∧ headFilling ∈ s.captures ∧ headFilling.delivery = .active ∧ headFilling.route = .drain .a ∧
     s.head .a = some headFilling ∧ s.drainA.state = .streaming) := by decide +kernel

/-- ApplyReplacesEveryActiveEntry: an id that is DEFINED and one that is not. -/
theorem test_hyps_apply :
    (staged small base).table.staged[(0 : RegionId)] = some small ∧ (staged small base).table.staged[(15 : RegionId)] = none := by
  decide +kernel

/-- RaiseUpdatesOrCreatesEntry: dropped, created, and updated for each kind, at count 255 and below. -/
theorem test_hyps_raise :
    let all : List Notice := [.ready 0, .lost 0 255 .depth, .done 0, .applied 1, .input .stopped 1, .drain .a, .overrun 255]
    let l := noticing all base.link
    (l.resetPending = false ∧ (∀ n ∈ all, l.isMasked n = false) ∧ ∀ e ∈ l.notices, sameKey e (.ready 1) = false) ∧
    (∀ i ∈ List.range 7, ∀ e ∈ all[i]?.toList, l.notices = all.take i ++ e :: all.drop (i + 1) ∧
      ∀ x ∈ all.take i ++ all.drop (i + 1), sameKey x e = false) ∧
    ({ base.link with mask := Vector.replicate 7 .masked } : Link).isMasked (.overrun 1) = true ∧
    ({ base.link with resetPending := true } : Link).resetPending = true := by decide +kernel

/-- ArbiterChoosesByTable: each row, with 3 and 4 replies in a row. -/
theorem test_hyps_arbiter :
    let l := base.link
    (l.transmitter = .idle ∧ l.resetPending = false ∧ l.replies = [] ∧ l.notices = []) ∧
    (noticing [.done 0] l).notices = .done 0 :: [] ∧ (replying 1 l).replies ≠ [] ∧ (replying 1 l).notices = [] ∧
    (let m (n : Nat) : Link := { noticing [.done 0] (replying 1 l) with repliesInRow := n }
     (m 3).replies ≠ [] ∧ (m 3).notices ≠ [] ∧ (m 3).repliesInRow < 4 ∧ 4 ≤ (m 4).repliesInRow) ∧
    ({ l with transmitter := .sendingReply } : Link).transmitter ≠ .idle ∧
    ({ l with resetPending := true } : Link).transmitter = .idle := by decide +kernel

/-- FrameEndsAndArbiterChooses, ReadinessEntersStarted. -/
theorem test_hyps_frames_end :
    (let s : State := { base with link := { replying 1 base.link with transmitter := .sendingReply } }
     s.link.replies = [{ kind := 0x81, tag := 1, payload := [0x00] }] ∧ s.link.transmitter = .sendingReply ∧
     s.link.resetPending = false) ∧
    (let s : State := { base with link := { base.link with transmitter := .sendingNotice (.lost 3 1 .halted) } }
     s.link.transmitter = .sendingNotice (.lost 3 1 .halted)) ∧
    State.reset.readiness = .resetting .pin ∧ (base.partReset .request).readiness = .resetting .request := by decide +kernel

/-- ReceiverFollowsByteTable: each state and each end of each range. -/
theorem test_hyps_receiver :
    (base.readiness = .ready ∧ base.link.rxd = .high ∧ base.link.receiver = .hunt ∧ (0xC4 : Byte) ≠ 0xC5) ∧
    (∀ n ∈ [2, 250], 2 ≤ (BitVec.ofNat 8 n).toNat ∧ (BitVec.ofNat 8 n).toNat ≤ 250) ∧
    (∀ n ∈ [0, 1, 251, 255], (BitVec.ofNat 8 n).toNat < 2 ∨ 250 < (BitVec.ofNat 8 n).toNat) ∧
    (receiving .length base).link.receiver = .length ∧
    (let s := receiving (.body 3 [1]) base
     s.link.receiver = .body 3 [1] ∧ [(1 : Byte)].length + 1 < (3 : Byte).toNat) ∧
    (let s := receiving (.body 2 [1]) base
     s.link.receiver = .body 2 [1] ∧ [(1 : Byte)].length + 1 = (2 : Byte).toNat) ∧
    (receiving (.crc 2 [1, 2] none) base).link.receiver = .crc 2 [1, 2] none ∧
    (receiving (.crc 2 [1, 2] (some 7)) base).link.receiver = .crc 2 [1, 2] (some 7) := by decide +kernel

/-- FrameIsJudgedInOrder: a bad CRC, each edge of the reserved kinds, tag 0, a reset pending, and 3 and 4 requests queued. -/
theorem test_hyps_judging :
    (crc [2, 0x3F, 0x01] = (0xA7 : Byte) ++ (0x76 : Byte) ∧
     crc [2, 0x40, 0x01] = (0xBF : Byte) ++ (0x11 : Byte) ∧
     crc [2, 0x47, 0x01] = (0x26 : Byte) ++ (0x86 : Byte) ∧
     crc [2, 0x48, 0x01] = (0x36 : Byte) ++ (0xB8 : Byte) ∧
     crc [2, 0x7F, 0x01] = (0xAA : Byte) ++ (0xBA : Byte) ∧
     crc [2, 0x80, 0x01] = (0xA9 : Byte) ++ (0x45 : Byte) ∧
     crc [2, 0x02, 0x00] = (0xC4 : Byte) ++ (0x9E : Byte) ∧
     crc [2, 0x02, 0xFF] = (0xDA : Byte) ++ (0x6E : Byte) ∧
     crc [2, 0x02, 0x01] ≠ (0x00 : Byte) ++ (0x00 : Byte)) ∧
    (receiving (.crc 2 [0x3F, 1] (some 0x76)) base).link.receiver = .crc 2 [0x3F, 1] (some 0x76) ∧
    (∀ n ∈ [3, 4], ({ base.link with requests := List.replicate n (req .status []) } : Link).requests.length = n) ∧
    ({ base.link with resetPending := true } : Link).resetPending = true := by decide +kernel

/-- LineEventsDiscardAndBreak. -/
theorem test_hyps_line_events :
    (base.readiness = .ready ∧ base.link.rxd = .high ∧ base.link.receiver = .hunt) ∧
    (receiving .length base).link.receiver ≠ .hunt ∧ (after .framingError base).link.rxd ≠ .high ∧
    State.reset.readiness ≠ .ready ∧ (base.link.rxd ≠ .broken ∧ base.link.resetPending = false) ∧
    (let s := after .reset (ask .reset [] base)
     s.readiness = .ready ∧ s.link.rxd ≠ .broken ∧ s.link.resetPending = true) ∧
    (after .linkBreak base).link.rxd = .broken := by decide +kernel

/-- ExecutionWaitsThenEntersReply: 4 replies queued; an idle and a sending transmitter. -/
theorem test_hyps_execution :
    4 ≤ ({ base with link := replying 4 base.link } : State).link.replies.length ∧ (requestRow .identify).isSome = true ∧
    (ask .identify [] base).link.requests = req .identify [] :: [] ∧ base.link.transmitter = .idle ∧ base.link.replies = [] ∧
    base.link.notices = [] ∧ ({ base.link with transmitter := .sendingReply } : Link).transmitter ≠ .idle := by decide +kernel

/-- RepeatedRequestIsReplayed: the same tag and kind with another payload, by REPLAY, by the row, and by UNKNOWN_REQUEST; another tag. -/
theorem test_hyps_replay :
    (let s := ask .release [0, 6, 0] (after .release (ask .release [0, 5, 0] base))
     s.link.requests = [req .release [0, 6, 0]] ∧ s.link.replies.length < 4 ∧
     (∃ stored, s.link.lastReply = some stored ∧ stored.tag = 1 ∧ stored.kind = ReqKind.release.code) ∧
     rowServes .release (req .release [0, 6, 0])) ∧
    (∃ stored, (after .unknownRequest unknown).link.lastReply = some stored ∧ stored.tag = 9 ∧ stored.kind = 0x05 ∧
      rowServes .unknownRequest { kind := 0x05, tag := 9, payload := [1] }) ∧
    (let s := ask .status [] (after .identify (ask .identify [] base))
     s.link.requests.head? = some (req .status []) ∧
     ∀ stored, s.link.lastReply = some stored → stored.tag ≠ (1 : Byte) ∨ stored.kind ≠ ReqKind.status.code) := by
  refine ⟨⟨rfl, by decide +kernel, ⟨_, rfl, rfl, rfl⟩, Or.inl ⟨.release, anyForm, rfl, rfl, rfl⟩⟩,
    ⟨_, rfl, rfl, rfl, Or.inr ⟨rfl, by decide⟩⟩, rfl, ?_⟩
  intro stored h
  obtain rfl : { tag := 1, kind := 0x01, reply := replyTo (req .identify []) (replyOk identifyItems) } = stored :=
    Option.some.inj h
  decide

/-- CommonChecksRefuse: a KIND that is no request code; a payload one byte short and one byte long; another kind at the head. -/
theorem test_hyps_common_checks :
    (unknown.link.requests.head? = some { kind := 0x05, tag := 9, payload := [] } ∧ unknown.link.replies.length < 4 ∧
     unknown.link.lastReply = none ∧ isRequestCode 0x05 = false) ∧
    requestRow .release = some (.release, anyForm) ∧ (req .release [0, 5]).payload.length ≠ ReqKind.release.payloadLength ∧
    (req .release [0, 5, 0, 0]).payload.length ≠ ReqKind.release.payloadLength ∧
    (∀ q ∈ unknown.link.requests, q.kind ≠ ReqKind.release.code) := by
  exact ⟨by decide +kernel, rfl, by decide, by decide, by decide⟩

/-- ResetRequestSetsResetPending, IdentifyRepliesFixedFacts, StatusReplyCarriesEveryItem, PoolStatusCountsSumTo512. -/
theorem test_hyps_plain_requests :
    (∀ k ∈ [ReqKind.reset, .identify, .status, .poolStatus], (ask k [] base).ServesNext k (req k [])) ∧
    (ask .poolStatus [] (holding [headDone] 1 base)).PoolLaw := by
  refine ⟨fun k hk => ask_serves k [] base ?_ rfl rfl, pool_of_prefix _ 1 ?_ ?_⟩
  · revert k
    decide
  · decide +kernel
  · decide +kernel

/-- RegionAndDrainStatusReplies: ids 15 and 16; a list of two; a head at each part; no head; drains A, B and neither. -/
theorem test_hyps_region_and_drain_status :
    (∀ b ∈ [(15 : Byte), 16],
      (ask .regionStatus [b] base).ServesNext .regionStatus (req .regionStatus [b])) ∧
    nat1 [16] 0 = 16 ∧ nat1 [15] 0 = (15 : RegionId).val ∧
    ((holding [cap 0 .link .complete .active, cap 1 .link .complete .waiting] 2 base).captureList 0)[1]? =
      some (cap 1 .link .complete .waiting) ∧
    (∀ b ∈ [(0 : Byte), 1, 2], (ask .drainStatus [b] base).ServesNext .drainStatus (req .drainStatus [b])) ∧
    (∀ p ∈ [Position.header 7, .data 0, .trailer 1],
      (streaming p 1 (holding [headDone] 1 base)).head .a = some headDone ∧
      (streaming p 1 (holding [headDone] 1 base)).drainA.position = some p) ∧
    (drainIn .idle base).drainA.state ≠ .streaming ∧ (drainIn .idle base).drainA.state ≠ .stopping := by
  exact ⟨fun _ _ => ask_serves _ _ _ rfl rfl rfl, by decide, by decide, by decide +kernel,
    fun _ _ => ask_serves _ _ _ rfl rfl rfl, by decide +kernel, by decide, by decide⟩

/-- The definitions of a state that holds only region 0's. -/
theorem only_small {d : RegionDef} {e : RegionDef} {s : State} {r : RegionId}
    (h : ∀ r : RegionId, (s.entry r).definition = if r = 0 then some d else none)
    (hr : (s.entry r).definition = some e) : e = d := by
  rw [h r] at hr
  split at hr
  · exact (Option.some.inj hr).symm
  · simp at hr

/-- SetInputChecksStateFieldsFit: each refusal at its edge (W 15 and 4097, H 0 and 4097, depth 9, OUTSIDE by one, TOO_LARGE by one
block) and the smallest and largest geometry that pass. -/
theorem test_hyps_set_input :
    (∀ p : List Byte, p.length = 5 → (ask .setInput p (armed small base)).ServesNext .setInput (req .setInput p)) ∧
    (nat2 [15, 0, 2, 0, 8] 0 = 15 ∧ nat2 [1, 16, 2, 0, 8] 0 = 4097 ∧ nat2 [16, 0, 0, 0, 8] 2 = 0 ∧ nat2 [16, 0, 1, 16, 8] 2 = 4097) ∧
    (nat2 [16, 0, 1, 0, 12] 0 = 16 ∧ nat2 [0, 16, 0, 16, 8] 0 = 4096 ∧ nat2 [0, 16, 0, 16, 8] 2 = 4096 ∧
      nat1 [16, 0, 2, 0, 9] 4 = 9 ∧ nat1 [16, 0, 1, 0, 12] 4 = 12) ∧
    (let s := armed small base
     (s.entry 0).definition = some small ∧ (s.entry 0).run ≠ .unused ∧ ¬(small.y0 + small.height ≤ 1) ∧
     small.x0 + small.width ≤ 16 ∧ small.y0 + small.height ≤ 2 ∧
     (∀ r d, (s.entry r).definition = some d → d.x0 + d.width ≤ 16 ∧ d.y0 + d.height ≤ 2 ∧
       (d.route = .link → ceilDiv (d.outW * d.outH * 2) 512 ≤ d.limit))) ∧
    (let d := { small with width := 16, colStep := 1, height := 17, limit := 1, reserve := 1 }
     d.route = .link ∧ ¬(ceilDiv (d.outW * d.outH * 2) 512 ≤ d.limit) ∧ ceilDiv (d.outW * d.outH * 1) 512 ≤ d.limit) := by
  refine ⟨fun p hp => ask_serves _ _ _ hp rfl rfl, by decide, by decide, ?_, by decide⟩
  refine ⟨by decide +kernel, by decide +kernel, by decide, by decide, by decide, ?_⟩
  intro r d h
  obtain rfl := only_small (d := small) (s := armed small base) (by decide +kernel) h
  decide

/-- StartAndStopInputByState: every Framer state, the two values of when, and a third. -/
theorem test_hyps_start_and_stop :
    (∀ st ∈ [FramerState.stopped, .waiting, .inFrame, .skipping],
      (ask .startInput [] (at_ st .low .low base)).ServesNext .startInput (req .startInput []) ∧
      (ask .startInput [] (at_ st .low .low base)).framer.state = st) ∧
    (∀ st ∈ [FramerState.stopped, .waiting, .inFrame, .skipping], ∀ w ∈ [(0 : Byte), 1, 2],
      (ask .stopInput [w] (at_ st .low .low base)).ServesNext .stopInput (req .stopInput [w]) ∧
      (ask .stopInput [w] (at_ st .low .low base)).framer.state = st) :=
  ⟨fun _ _ => ⟨ask_serves _ _ _ rfl rfl rfl, rfl⟩, fun _ _ _ _ => ⟨ask_serves _ _ _ rfl rfl rfl, rfl⟩⟩

/-- StagedEntryDefinedOrCleared: a definition at the largest values, a refusal at each end of the index range, an
accepted payload with bytes that are not checked, ids 15 and 16. -/
theorem test_hyps_define_and_clear :
    (let d : RegionDef :=
       { x0 := 4095, y0 := 4095, width := 4096, height := 4096, colStep := 8, rowStep := 8, stride := 64, mode := .count 65535,
         route := .drain .b, depth := 8, reserve := 512, limit := 512, policy := .keepNew, label := some 65535 }
     d.inRange ∧ (ask .defineRegion (15 :: putDefinition d) base).ServesNext .defineRegion (req .defineRegion (15 :: putDefinition d))) ∧
    small.inRange ∧
    (∀ p : List Byte, p.length = 25 → (ask .defineRegion p base).ServesNext .defineRegion (req .defineRegion p)) ∧
    (let bad0 := example98.set 0 16
     let bad15 := example98.set 22 2
     (defineChecks bad0)[0]? = some false ∧ (defineChecks bad15)[15]? = some false ∧
     ∀ j, j < 15 → (defineChecks bad15)[j]? = some true) ∧
    (let loose := ((example98.set 13 0xFF).set 22 0).set 23 0xFF
     (∀ ok ∈ defineChecks loose, ok = true) ∧ nat1 loose 0 = (2 : RegionId).val ∧ nat1 loose 12 = 0 ∧ nat2 loose 13 = 0xFF ∧
     nat1 loose 22 = 0 ∧ nat2 loose 23 = 0x1FF ∧
     replied (after .defineRegion (ask .defineRegion loose base)) = [0x00] ∧
     (after .defineRegion (ask .defineRegion loose base)).table.staged[(2 : RegionId)] =
       (after .defineRegion (ask .defineRegion ((example98.set 22 0).set 23 0) base)).table.staged[(2 : RegionId)]) ∧
    (∀ b ∈ [(15 : Byte), 16], (ask .clearRegion [b] base).ServesNext .clearRegion (req .clearRegion [b])) ∧
    (base.table.commitPending = false ∧ (base.setCommitPending true).table.commitPending = true) := by
  refine ⟨⟨?_, ask_serves _ _ _ rfl rfl rfl⟩, ?_, fun p hp => ask_serves _ _ _ hp rfl rfl, by decide +kernel, by decide +kernel,
    fun _ _ => ask_serves _ _ _ rfl rfl rfl, by decide⟩
  · simp [RegionDef.inRange]
  · simp [RegionDef.inRange, small]

/-- GetRegionReadsEitherCopy: ids 15 and 16, selectors 0, 1 and 2. -/
theorem test_hyps_get_region :
    ∀ b ∈ [(15 : Byte), 16], ∀ sel ∈ [(0 : Byte), 1, 2],
      (ask .getRegion [b, sel] (staged small base)).ServesNext .getRegion (req .getRegion [b, sel]) :=
  fun _ _ _ _ => ask_serves _ _ _ rfl rfl rfl

/-- CommitAndCancelCommit: each cause of a FIT refusal, and a staged copy that passes, in STOPPED and outside it. -/
theorem test_hyps_commit :
    ((ask .commit [] (staged small base)).ServesNext .commit (req .commit []) ∧
     (ask .cancelCommit [] base).ServesNext .cancelCommit (req .cancelCommit [])) ∧
    (¬({ small with width := 17 } : RegionDef).x0 + ({ small with width := 17 } : RegionDef).width ≤ base.framer.width) ∧
    (let d := { small with width := 16, colStep := 1, height := 33, limit := 1, reserve := 1 }
     d.route = .link ∧ ¬(ceilDiv (d.outW * d.outH * 1) 512 ≤ d.limit)) ∧
    (let staged2 := ((staged { small with reserve := 512, limit := 512 } base).setStaged 1 (some small)).table.staged
     512 < ((allRegions.filter (fun x => x ≤ (1 : RegionId))).map (fun x => (staged2[x].map RegionDef.reserve).getD 0)).sum ∧
     ((allRegions.filter (fun x => x ≤ (0 : RegionId))).map (fun x => (staged2[x].map RegionDef.reserve).getD 0)).sum ≤ 512) ∧
    (∀ r : RegionId, (staged small base).table.staged[r] = if r = 0 then some small else none) := by
  exact ⟨⟨ask_serves _ _ _ rfl rfl rfl, ask_serves _ _ _ rfl rfl rfl⟩, by decide, by decide, by decide +kernel, by decide +kernel⟩

/-- HaltRegionAbandonsFillingCapture, FetchTakesOldestWaitingLinkCapture, ReadAnswersBytesOfFetchedCapture,
ReleaseAndFlushFreeCaptures: ids 15 and 16; not link-served, nothing to fetch, one fetched, one waiting; READ of 1, 192 and 193 bytes,
to the last byte and one past it. -/
theorem test_hyps_link_requests :
    (∀ b ∈ [(0 : Byte), 15, 16],
      (ask .haltRegion [b] (armed small base)).ServesNext .haltRegion (req .haltRegion [b]) ∧
      (ask .fetch [b] base).ServesNext .fetch (req .fetch [b]) ∧ (ask .flush [b] base).ServesNext .flush (req .flush [b])) ∧
    (∀ p : List Byte, p.length = 8 → (ask .read p base).ServesNext .read (req .read p)) ∧
    (∀ p : List Byte, p.length = 3 → (ask .release p base).ServesNext .release (req .release p)) ∧
    (base.linkServed 0 = false ∧ (armed small base).linkServed 0 = true ∧ (armed small base).fetched 0 = none) ∧
    (let s := holding [cap 0 .link .complete .active, cap 1 .link .complete .waiting] 2 base
     s.RecordsDistinct ∧ s.linkServed 0 = true ∧ s.fetched 0 = some (cap 0 .link .complete .active) ∧
     s.fetchable 0 = [cap 1 .link .complete .waiting] ∧ s.candidates 0 = [cap 1 .link .complete .waiting]) ∧
    (let s := holding [cap 1 .link .complete .waiting] 2 base
     s.fetched 0 = none ∧ s.fetchable 0 = cap 1 .link .complete .waiting :: []) ∧
    (nat1 [0, 5, 0, 0, 0, 0, 0, 193] 7 = 193 ∧ nat1 [0, 5, 0, 0, 0, 0, 0, 192] 7 = 192 ∧
      (cap 0 .link .complete .active).seq.toNat = nat2 [0, 5, 0] 1 ∧
      nat4 [0, 5, 0, 3, 0, 0, 0, 1] 3 + 1 = (cap 0 .link .complete .active).bytesExpected) := by
  exact ⟨fun _ _ => ⟨ask_serves _ _ _ rfl rfl rfl, ask_serves _ _ _ rfl rfl rfl, ask_serves _ _ _ rfl rfl rfl⟩,
    fun _ hp => ask_serves _ _ _ hp rfl rfl, fun _ hp => ask_serves _ _ _ hp rfl rfl, by decide +kernel, by decide +kernel,
    by decide +kernel, by decide⟩

/-- BurstAndPromotionOfDrainHead: the available words at the grain and one below it, COMPLETE with fewer; a promotion; a first byte on an
IDLE and on a DISABLED drain; a write that completes a data word and one that does not. -/
theorem test_hyps_burst :
    (let s := streaming (.header 0) 8 (holding [headFilling] 1 base)
     s.head .a = some headFilling ∧ s.drainA.position = some (.header 0) ∧ s.drainA.state = .streaming ∧
     headFilling.available (.header 2) = 8 ∧ headFilling.available (.header 3) = 7 ∧ s.drainA.grain = 8 ∧
     headDone.available (.trailer 1) = 1 ∧ s.drainA.queue = 0 :: []) ∧
    (let c := { headFilling with bytesWritten := 0, delivery := .waiting }
     c.route = .drain .a ∧ c.bytesWritten = 0 ∧ (drainIn .idle base).drainA.state = .idle ∧
     (drainIn .disabled base).drainA.state ≠ .idle) ∧
    (let c := { headFilling with bytesWritten := 1 }
     c.bytesWritten ≠ 0 ∧ c.delivery = .active ∧ c.bytesWritten / 2 < (c.bytesWritten + c.bpp) / 2 ∧ base.drainA.rq = .low) ∧
    (let c := { headFilling with bytesWritten := 2 }
     (c.bytesWritten + c.bpp) / 2 ≤ c.bytesWritten / 2) := by decide +kernel

/-- PresentedWordFollowsLayout and TakeAcceptsPresentedWord: each position of a capture of 3 bytes (an odd last word) and of a capture of
more than one block; an abandoned head; the last take from STREAMING, with an entry behind it, and from STOPPING. -/
theorem test_hyps_takes :
    (let odd := { headDone with bytesExpected := 3, bytesWritten := 3 }
     ∀ p ∈ [Position.header 0, .header 6, .header 7, .data 0, .data 1, .trailer 0, .trailer 1],
       let s := streaming p 1 (holding [odd] 1 base)
       s.head .a = some odd ∧ s.drainA.position = some p ∧ s.drainA.rq = .high ∧ 3 ≤ 2 * 1 + 1 ∧ 1 + 1 = ceilDiv 3 2) ∧
    (let long := { headDone with bytesExpected := 1026, bytesWritten := 1026, chain := [0, 1, 2] }
     (255 + 1) % 256 = 0 ∧ 255 + 1 < ceilDiv long.bytesExpected 2 ∧
     (streaming (.data 255) 8 (holding [long] 3 base)).head .a = some long) ∧
    (let gone := { headDone with fill := .abandoned, chain := [], abandonReason := some .lineError }
     (streaming (.trailer 0) 2 (holding [gone] 0 base)).head .a = some gone) ∧
    (let s := streaming (.trailer 1) 1 (holding [headDone, cap 1 (.drain .a) .complete .waiting] 2 base)
     let two : State := { s with drainA := { s.drainA with queue := [0, 1] } }
     two.drainA.queue.filter (fun n => n ≠ headDone.slot) = [1] ∧ s.drainA.queue.filter (fun n => n ≠ headDone.slot) = [] ∧
     ({ s.drainA with state := .stopping } : Drain).state = .stopping) := by decide +kernel

/-- StrayTakeIsCountedOnly, SetDrainActionsByState, StallExpiryFaultsDrain: DxRQ low; each drain state; payloads at the edges of each
field (drain 1 and 2, action 2 and 3, grain 128 and 129, timeout 250 and 251); a running timer. -/
theorem test_hyps_drain_control :
    base.drainA.rq = .low ∧
    (∀ st ∈ [DrainState.disabled, .idle, .streaming, .stopping, .fault], (drainIn st base).drainA.state = st) ∧
    (∀ p : List Byte, p.length = 4 → (ask .setDrain p base).ServesNext .setDrain (req .setDrain p)) ∧
    (nat1 [1, 2, 128, 250] 0 = 1 ∧ nat1 [1, 2, 128, 250] 1 = 2 ∧ nat1 [1, 2, 128, 250] 2 = 128 ∧ nat1 [1, 2, 128, 250] 3 = 250) ∧
    (1 < nat1 [2, 0, 1, 0] 0 ∧ 2 < nat1 [0, 3, 1, 0] 1 ∧ nat1 [0, 0, 129, 0] 2 = 129 ∧ 250 < nat1 [0, 0, 1, 251] 3) ∧
    (let s : State := { holding [cap 0 (.drain .a) .complete .waiting] 1 base with drainA := { Drain.reset with queue := [0] } }
     s.drainA.state = .disabled ∧ s.drainA.queue ≠ [] ∧ base.drainA.queue = []) ∧
    (let s := streaming (.data 0) 8 (holding [headDone] 1 base)
     s.drainA.timer = .running ∧ s.drainA.state = .streaming ∧ s.head .a = some headDone ∧ base.drainA.timer = .stopped) := by
  exact ⟨rfl, by decide +kernel, fun _ hp => ask_serves _ _ _ hp rfl rfl, by decide, by decide, by decide +kernel, by decide +kernel⟩

/-- SetNoticesMasksKinds: index 0 and index 6 bad; all settings good. -/
theorem test_hyps_set_notices :
    (∀ p : List Byte, p.length = 7 → (ask .setNotices p base).ServesNext .setNotices (req .setNotices p)) ∧
    (1 < nat1 [2, 0, 0, 0, 0, 0, 0] 0) ∧
    ((∀ j, j < 6 → nat1 [1, 1, 1, 1, 1, 1, 2] j ≤ 1) ∧ 1 < nat1 [1, 1, 1, 1, 1, 1, 2] 6) ∧
    (∀ k, k < 7 → nat1 [1, 0, 1, 0, 1, 0, 1] k ≤ 1) :=
  ⟨fun _ hp => ask_serves _ _ _ hp rfl rfl, by decide, by decide, by decide⟩

/-- A fetched link capture, a COMPLETE link capture and a streaming drain head; the next command is a frame start. -/
def lawful : State :=
  { streaming (.data 0) 2 (holding [cap 0 (.drain .a) .complete .active, cap 1 .link .complete .active,
      cap 2 .link .complete .waiting] 3 (armed small (at_ .waiting .low .low base))) with pending := [.frameStart] }

/-- The laws of the StepsKeep statements, of FetchedCaptureIsLeftAlone and of CompleteLinkCaptureKeepsBytes hold together. -/
theorem test_hyps_laws :
    (lawful.CellsCanonical ∧ lawful.DirectoryLaw ∧ lawful.CompleteIsWritten ∧ lawful.WholePixels ∧ lawful.LinkChainLaw) ∧
    (lawful.NoticeSetLaw ∧ lawful.LinkQueuesBounded ∧ lawful.FramerLaw ∧ lawful.InHandLaw) ∧
    (lawful.EntriesDefined ∧ lawful.DrainsAtRest ∧ lawful.DrainLaw) ∧ lawful.PoolLaw ∧
    lawful.captures = [cap 0 (.drain .a) .complete .active] ++ cap 1 .link .complete .active :: [cap 2 .link .complete .waiting] ∧
    step lawful = .next (after .frameStart { lawful with pending := [] }) := by
  refine ⟨?_, ?_, ?_, pool_of_prefix _ 3 ?_ ?_, rfl, rfl⟩ <;> decide +kernel

/-- The laws of RasterInvariant that speak of region 0's definition alone. -/
theorem geometry_of_small (s : State) (staged : ∀ r : RegionId, s.table.staged[r] = none)
    (active : ∀ r : RegionId, (s.entry r).definition = if r = 0 then some small else none)
    (fits : small.liesIn s.framer.width s.framer.height) : s.GeometryLaw := by
  refine ⟨fun r d h => ?_, fun r d h => ?_, fun _ r d h => ?_⟩
  · simp [staged r] at h
  · obtain rfl := only_small active h
    exact ⟨by simp [RegionDef.inRange, small], fits⟩
  · simp [staged r] at h

/-- RasterInvariant, with a FILLING capture in mid row: column 3 of row 1 is next, so both samples of row 0 and both of row 1 have
come. -/
theorem test_hyps_raster :
    (armed small (holding [cap 0 .link .filling .waiting] 1 (counts 1 3 (at_ .inFrame .high .high base)))).RasterInvariant := by
  refine ⟨by decide +kernel, by decide +kernel, by decide +kernel,
    geometry_of_small _ (by decide +kernel) (by decide +kernel) (by decide +kernel), by decide +kernel, by decide +kernel, ?_⟩
  intro c hc hf
  obtain rfl : c = cap 0 .link .filling .waiting := List.mem_singleton.mp hc
  exact ⟨rfl, small, by decide +kernel⟩

/-- RasterInvariant and InHandLaw, with the pixel (2, 1) in hand: region 0 has its column 0 of row 1, and has still to get column 2. -/
theorem test_hyps_raster_in_hand :
    let c := { cap 0 .link .filling .waiting with bytesWritten := 3 }
    ({ armed small (holding [c] 1 (counts 1 3 (at_ .inFrame .high .high base))) with
      inHand := some { x := 2, y := 1, value := 5, rest := allRegions } } : State).RasterInvariant := by
  intro c
  refine ⟨by decide +kernel, by decide +kernel, by decide +kernel,
    geometry_of_small _ (by decide +kernel) (by decide +kernel) (by decide +kernel), by decide +kernel, by decide +kernel, ?_⟩
  intro x hx hf
  obtain rfl : x = c := List.mem_singleton.mp hx
  exact ⟨rfl, small, by decide +kernel⟩

end Sys2Proof.Tests
end

section
/-! SUPPORT. Proofs of the family 01_the_region_table_and_commit: how a request that stands next is answered, what each request of the
Region Table answers, and the four statements. -/

namespace Sys2Proof.Machine

/-! ### A request that stands next is executed (R133, R134, R136) -/

/-- A request that differs in tag or kind from the last one executed is no replay (R136). -/
theorem Link.matchesStored_eq_false {l : Link} {q : Request}
    (h : ∀ stored, l.lastReply = some stored → stored.tag ≠ q.tag ∨ stored.kind ≠ q.kind) : l.matchesStored q = false := by
  unfold Link.matchesStored
  split
  · rename_i stored hl
    simpa [← imp_iff_not_or] using h stored hl
  · rfl

/-- The row of a request that stands next runs the owning block's body and ends the execution with its reply. -/
theorem State.ServesNext.serve_eq {s : State} {k : ReqKind} {q : Request} (h : s.ServesNext k q) (form : List Byte → Bool)
    (hf : form q.payload = true) (body : State → List Byte → State × List Byte) :
    s.serve k form body = (body s q.payload).1.finish q (body s q.payload).2 := by
  obtain ⟨hhead, hkind, hlength, hroom, hnew⟩ := h
  exact s.serve_executes k form body q hhead hkind hf hroom (Link.matchesStored_eq_false hnew) hlength

/-- The command of a request that stands next, from what the owning block's body answers. `arm` is the command's arm of `exec`. -/
theorem State.ServesNext.exec_eq {s t : State} {k : ReqKind} {q : Request} (h : s.ServesNext k q) {c : Instr}
    {form : List Byte → Bool} {body : State → List Byte → State × List Byte} {reply : List Byte}
    (arm : exec c s = .next (s.serve k form body)) (hf : form q.payload = true) (hbody : body s q.payload = (t, reply)) :
    exec c s = .next (t.finish q reply) := by
  rw [arm, h.serve_eq form hf body, hbody]

/-! ### Region ids and flags in payloads -/

theorem regionOf_eq_some {n : Nat} {r : RegionId} (h : n = r.val) : regionOf n = some r := by
  subst h
  simp [regionOf]

theorem regionOf_eq_none {n : Nat} (h : 16 ≤ n) : regionOf n = none := by
  simp [regionOf, Nat.not_lt.mpr h]

theorem putFlag_eq (b : Bool) : putFlag b = [if b then 1 else 0] := by
  cases b <;> rfl

/-! ### The apply (R18) -/

theorem State.applyCommit_entry (s : State) (r : RegionId) :
    s.applyCommit.entry r = appliedEntry s.table.staged[r] (s.entry r) := by
  simp [State.applyCommit, State.raise, State.entry]

theorem State.applyCommit_staged (s : State) : s.applyCommit.table.staged = s.table.staged := by
  rw [State.applyCommit, State.raise_table]

theorem State.applyCommit_commitPending (s : State) : s.applyCommit.table.commitPending = false := by
  rw [State.applyCommit, State.raise_table]

/-- Settles O20: an apply makes the entry of every id anew, by what is staged for it, and the rest is its frame. -/
theorem applyReplacesEveryActiveEntry : Obligations.ApplyReplacesEveryActiveEntry := by
  unfold Obligations.ApplyReplacesEveryActiveEntry
  intro s
  refine ⟨fun r d hd => ?defined, fun r hnone => ?undefined, s.applyCommit_staged, s.applyCommit_commitPending,
    s.applyCommit_frame⟩
  case defined => exact (s.applyCommit_entry r).trans (congrArg (appliedEntry · (s.entry r)) hd)
  case undefined => exact (s.applyCommit_entry r).trans (congrArg (appliedEntry · (s.entry r)) hnone)

/-! ### GET_REGION (R12) -/

theorem State.getRegion_of_bad_id (s : State) {p : List Byte} (h : 16 ≤ nat1 p 0) : s.getRegion p = (s, replyValue 0) := by
  simp [State.getRegion, regionOf_eq_none h]

theorem State.getRegion_of_bad_selector (s : State) {p : List Byte} {r : RegionId} (h : nat1 p 0 = r.val)
    (h0 : byteAt p 1 ≠ 0) (h1 : byteAt p 1 ≠ 1) : s.getRegion p = (s, replyValue 1) := by
  rw [State.getRegion, regionOf_eq_some h]
  exact (if_neg h0).trans (if_neg h1)

theorem State.getRegion_staged (s : State) {p : List Byte} {r : RegionId} (h : nat1 p 0 = r.val) (h0 : byteAt p 1 = 0) :
    s.getRegion p = (s, replyOk (s.stagedItems r)) := by
  simp [State.getRegion, regionOf_eq_some h, h0]

theorem State.getRegion_active (s : State) {p : List Byte} {r : RegionId} (h : nat1 p 0 = r.val) (h1 : byteAt p 1 = 1) :
    s.getRegion p = (s, replyOk (s.activeItems r)) := by
  simp [State.getRegion, regionOf_eq_some h, h1]

/-- The items under STAGED end in nine zero bytes in the place of the runtime. -/
theorem State.stagedItems_eq (s : State) (r : RegionId) :
    s.stagedItems r =
      [BitVec.ofNat 8 r.val, 0, if s.table.staged[r].isSome then 1 else 0, if s.table.commitPending then 1 else 0] ++
        putEntry s.table.staged[r] ++ List.replicate 9 0 := by
  simp [State.stagedItems, putFlag_eq, put1, put2]

theorem State.activeItems_eq (s : State) (r : RegionId) :
    s.activeItems r =
      [BitVec.ofNat 8 r.val, 1, runCode (s.entry r).run, if s.table.commitPending then 1 else 0] ++
        putEntry (s.entry r).definition ++ put1 (s.entry r).phase ++ put2 (s.entry r).remaining.toNat ++
        put2 (s.entry r).completed.toNat ++ put2 (s.entry r).nextSeq.toNat ++ put2 (s.entry r).lost.toNat := by
  simp [State.activeItems, putFlag_eq, put1]

/-- Settles O39: the reads of the two copies differ in their items alone, and no case changes the state. -/
theorem getRegionReadsEitherCopy : Obligations.GetRegionReadsEitherCopy := by
  unfold Obligations.GetRegionReadsEitherCopy
  intro s q hq pending entryBytes
  have entryBytes_eq : entryBytes = putEntry := by
    funext d
    cases d <;> rfl
  rw [entryBytes_eq]
  refine ⟨fun hid => ?badId, fun r hr => ⟨fun h0 h1 => ?badSelector, fun h0 => ?staged, fun h1 => ?active⟩⟩
  case badId => exact hq.exec_eq rfl rfl (s.getRegion_of_bad_id hid)
  case badSelector => exact hq.exec_eq rfl rfl (s.getRegion_of_bad_selector hr h0 h1)
  case staged =>
    rw [hq.exec_eq rfl rfl (s.getRegion_staged hr h0), s.stagedItems_eq]
    rfl
  case active =>
    rw [hq.exec_eq rfl rfl (s.getRegion_active hr h1), s.activeItems_eq]
    rfl

/-! ### DEFINE_REGION and CLEAR_REGION (R9 to R11): the numbers and codes of the payload -/

theorem byteAt_eq_iff (p : List Byte) (i : Nat) (b : Byte) : byteAt p i = b ↔ nat1 p i = b.toNat :=
  BitVec.toNat_inj.symm

theorem nat2_lt (p : List Byte) (i : Nat) : nat2 p i < 65536 := by
  have hlow : nat1 p i < 256 := (byteAt p i).isLt
  have hhigh : nat1 p (i + 1) < 256 := (byteAt p (i + 1)).isLt
  unfold nat2
  omega

theorem nat1_of_put1 {p : List Byte} {i n : Nat} (hbyte : byteAt p i = BitVec.ofNat 8 n) (hn : n < 256) : nat1 p i = n := by
  rw [nat1, hbyte, BitVec.toNat_ofNat, Nat.mod_eq_of_lt hn]

theorem nat2_of_put2 {p : List Byte} {i n : Nat} (hlow : byteAt p i = BitVec.ofNat 8 n)
    (hhigh : byteAt p (i + 1) = BitVec.ofNat 8 (n / 256)) (hn : n < 65536) : nat2 p i = n := by
  have hhigh' : nat1 p (i + 1) = n / 256 := nat1_of_put1 hhigh (by omega)
  have hlow' : nat1 p i = n % 256 := by rw [nat1, hlow, BitVec.toNat_ofNat]
  rw [nat2, hlow', hhigh', Nat.mod_add_div]

theorem stepInRange_eq (n : Nat) : stepInRange n = decide (n ∈ [1, 2, 4, 8]) := by
  simp [stepInRange, Bool.or_assoc]

theorem isSome_routeOf (p : List Byte) (i : Nat) : (routeOf (byteAt p i)).isSome = decide (nat1 p i ∈ [0, 1, 2]) := by
  simp only [routeOf, byteAt_eq_iff]
  split_ifs <;> simp_all

theorem isSome_policyOf (p : List Byte) (i : Nat) : (policyOf (byteAt p i)).isSome = decide (nat1 p i ∈ [0, 1]) := by
  simp only [policyOf, byteAt_eq_iff]
  split_ifs <;> simp_all

theorem routeOf_of_isSome {p : List Byte} {i : Nat} (h : (routeOf (byteAt p i)).isSome = true) :
    routeOf (byteAt p i) = some (if nat1 p i = 0 then .link else if nat1 p i = 1 then .drain .a else .drain .b) := by
  have hcode : nat1 p i = 0 ∨ nat1 p i = 1 ∨ nat1 p i = 2 := by simpa [isSome_routeOf] using h
  rcases hcode with hcode | hcode | hcode <;> simp [routeOf, byteAt_eq_iff, hcode]

theorem policyOf_of_isSome {p : List Byte} {i : Nat} (h : (policyOf (byteAt p i)).isSome = true) :
    policyOf (byteAt p i) = some (if nat1 p i = 0 then .keepOld else .keepNew) := by
  have hcode : nat1 p i = 0 ∨ nat1 p i = 1 := by simpa [isSome_policyOf] using h
  rcases hcode with hcode | hcode <;> simp [policyOf, byteAt_eq_iff, hcode]

theorem routeOf_routeCode (route : Route) : routeOf (routeCode route) = some route := by
  rcases route with _ | _ | _ <;> rfl

theorem policyOf_policyCode (policy : Policy) : policyOf (policyCode policy) = some policy := by
  cases policy <;> rfl

/-! ### The definition in a payload (9.3) -/

/-- The count of COUNT mode. -/
def Mode.count? : Mode → Option Half
  | .continuous => none
  | .count n => some n

/-- A mode and an optional label are laid out in one way: a code 0 or 1, then a value that is zero where there is none. -/
theorem putMode_eq (m : Mode) : putMode m = putLabel m.count? := by
  cases m <;> rfl

theorem putLabel_eq (o : Option Half) :
    putLabel o = (if o.isSome then 1 else 0) :: put2 (o.getD 0).toNat := by
  cases o <;> rfl

/-- The 25 bytes of a DEFINE_REGION payload, one by one. -/
theorem definePayload_eq (b : Byte) (d : RegionDef) :
    b :: putDefinition d =
      [b, BitVec.ofNat 8 d.x0, BitVec.ofNat 8 (d.x0 / 256), BitVec.ofNat 8 d.y0, BitVec.ofNat 8 (d.y0 / 256),
       BitVec.ofNat 8 d.width, BitVec.ofNat 8 (d.width / 256), BitVec.ofNat 8 d.height, BitVec.ofNat 8 (d.height / 256),
       BitVec.ofNat 8 d.colStep, BitVec.ofNat 8 d.rowStep, BitVec.ofNat 8 d.stride,
       if d.mode.count?.isSome then 1 else 0, BitVec.ofNat 8 (d.mode.count?.getD 0).toNat,
       BitVec.ofNat 8 ((d.mode.count?.getD 0).toNat / 256), routeCode d.route, BitVec.ofNat 8 d.depth,
       BitVec.ofNat 8 d.reserve, BitVec.ofNat 8 (d.reserve / 256), BitVec.ofNat 8 d.limit, BitVec.ofNat 8 (d.limit / 256),
       policyCode d.policy, if d.label.isSome then 1 else 0, BitVec.ofNat 8 (d.label.getD 0).toNat,
       BitVec.ofNat 8 ((d.label.getD 0).toNat / 256)] := by
  rw [putDefinition, putMode_eq, putLabel_eq, putLabel_eq]
  rfl

/-- An optional value whose code stands at offset `i` is read back. -/
theorem optional_readback {p : List Byte} {i : Nat} {o : Option Half} (hcode : byteAt p i = if o.isSome then 1 else 0)
    (hlow : byteAt p (i + 1) = BitVec.ofNat 8 (o.getD 0).toNat)
    (hhigh : byteAt p (i + 2) = BitVec.ofNat 8 ((o.getD 0).toNat / 256)) :
    (if byteAt p i = 1 then some (BitVec.ofNat 16 (nat2 p (i + 1))) else none) = o := by
  rw [hcode, nat2_of_put2 hlow hhigh (o.getD 0).isLt]
  cases o <;> simp

/-- A mode is read back from its count. -/
theorem mode_of_count? {p : List Byte} {i : Nat} {m : Mode}
    (h : (if byteAt p i = 1 then some (BitVec.ofNat 16 (nat2 p (i + 1))) else none) = m.count?) :
    (if byteAt p i = 1 then .count (BitVec.ofNat 16 (nat2 p (i + 1))) else .continuous) = m := by
  split_ifs at h ⊢ <;> cases m <;> simp_all [Mode.count?]

/-- A definition in range is read back from its 24 bytes. -/
theorem readDefinition_putDefinition (b : Byte) {d : RegionDef} (h : d.inRange) : readDefinition (b :: putDefinition d) = d := by
  obtain ⟨hx0, hy0, -, hwidth, -, hheight, hcol, hrow, -, hstride, -, -, hdepth, hreserve, -, hlimit, -⟩ := h
  rw [definePayload_eq, readDefinition]
  refine (RegionDef.mk.injEq ..).mpr
    ⟨?x0, ?y0, ?width, ?height, ?colStep, ?rowStep, ?stride, ?mode, ?route, ?depth, ?reserve, ?limit, ?policy, ?label⟩
  case x0 | y0 | width | height | reserve | limit => exact nat2_of_put2 rfl rfl (by omega)
  case colStep | rowStep | stride | depth => exact nat1_of_put1 rfl (by omega)
  case mode => exact mode_of_count? (optional_readback rfl rfl rfl)
  case label => exact optional_readback rfl rfl rfl
  case route => exact congrArg (Option.getD · .link) (routeOf_routeCode d.route)
  case policy => exact congrArg (Option.getD · .keepOld) (policyOf_policyCode d.policy)

/-! ### The checks of DEFINE_REGION (R10) -/

/-- The four codes of a payload are codes of 9.7: mode, route, policy, label-present. -/
structure DefineCodesKnown (p : List Byte) : Prop where
  mode : byteAt p 12 = 0 ∨ byteAt p 12 = 1
  route : (routeOf (byteAt p 15)).isSome = true
  policy : (policyOf (byteAt p 21)).isSome = true
  label : byteAt p 22 = 0 ∨ byteAt p 22 = 1

theorem defineCodesKnown_putDefinition (b : Byte) (d : RegionDef) : DefineCodesKnown (b :: putDefinition d) := by
  have flag (c : Bool) : (if c then 1 else 0 : Byte) = 0 ∨ (if c then 1 else 0 : Byte) = 1 := by cases c <;> simp
  rw [definePayload_eq]
  exact
    { mode := flag d.mode.count?.isSome
      route := Option.isSome_of_eq_some (routeOf_routeCode d.route)
      policy := Option.isSome_of_eq_some (policyOf_policyCode d.policy)
      label := flag d.label.isSome }

/-- A payload with known codes passes every check when its id is one and the definition it carries is in range. -/
theorem defineChecks_pass {p : List Byte} (hid : nat1 p 0 < 16) (hcodes : DefineCodesKnown p)
    (hrange : (readDefinition p).inRange) : ∀ ok ∈ defineChecks p, ok = true := by
  obtain ⟨hmode, hroute, hpolicy, hlabel⟩ := hcodes
  simp only [RegionDef.inRange, readDefinition] at hrange
  obtain ⟨hx0, hy0, hwidth1, hwidth, hheight1, hheight, hcol, hrow, hstride1, hstride, hcount, hdepth1, hdepth, hreserve,
    hlimit1, hlimit, hless⟩ := hrange
  have hcount' : byteAt p 12 ≠ 1 ∨ 1 ≤ nat2 p 13 := by
    refine or_iff_not_imp_left.mpr fun hcode => Nat.one_le_iff_ne_zero.mpr fun hzero => ?_
    exact hcount (BitVec.ofNat 16 (nat2 p 13)) (if_pos (not_not.mp hcode)) (by rw [hzero]; rfl)
  simpa [defineChecks, stepInRange_eq, hid, hroute, hpolicy, hx0, hy0, hwidth1, hwidth, hheight1, hheight, hcol, hrow, hstride1,
    hstride, hdepth1, hdepth, hreserve, hlimit1, hlimit, hless] using ⟨hmode, hcount', hlabel⟩

/-- The first check that fails is found at its index. -/
theorem firstFailing_eq_some {checks : List Bool} {i : Nat} (hbefore : ∀ j, j < i → checks[j]? = some true)
    (hi : checks[i]? = some false) : firstFailing checks = some i := by
  obtain ⟨hlt, hfalse⟩ := List.getElem?_eq_some_iff.mp hi
  refine List.findIdx?_eq_some_iff_getElem.mpr ⟨hlt, by simp [hfalse], fun j hj => ?_⟩
  obtain ⟨_, htrue⟩ := List.getElem?_eq_some_iff.mp (hbefore j hj)
  simp [htrue]

theorem firstFailing_eq_none {checks : List Bool} (h : ∀ ok ∈ checks, ok = true) : firstFailing checks = none := by
  simpa [firstFailing] using h

/-! ### What DEFINE_REGION and CLEAR_REGION answer -/

theorem State.defineRegion_of_pending (s : State) (p : List Byte) (h : s.table.commitPending = true) :
    s.defineRegion p = (s, replyPending) := by
  simp [State.defineRegion, h]

theorem State.clearRegion_of_pending (s : State) (p : List Byte) (h : s.table.commitPending = true) :
    s.clearRegion p = (s, replyPending) := by
  simp [State.clearRegion, h]

section
variable {s : State} {p : List Byte} (hclear : s.table.commitPending = false)
include hclear

theorem State.defineRegion_of_pass {r : RegionId} (hr : nat1 p 0 = r.val) (hpass : ∀ ok ∈ defineChecks p, ok = true) :
    s.defineRegion p = (s.setStaged r (some (readDefinition p)), replyOk []) := by
  simp [State.defineRegion, hclear, regionOf_eq_some hr, firstFailing_eq_none hpass]

theorem State.defineRegion_of_failing {i : Nat} (hi : firstFailing (defineChecks p) = some i) :
    s.defineRegion p = (s, replyValue i) := by
  simp [State.defineRegion, hclear, hi]

theorem State.clearRegion_of_id {r : RegionId} (hr : nat1 p 0 = r.val) :
    s.clearRegion p = (s.setStaged r none, replyOk []) := by
  simp [State.clearRegion, hclear, regionOf_eq_some hr]

theorem State.clearRegion_of_bad_id (h : 16 ≤ nat1 p 0) : s.clearRegion p = (s, replyValue 0) := by
  simp [State.clearRegion, hclear, regionOf_eq_none h]

end

/-- Settles O38: the ranges of R2 are the model's checks, so a payload that passes them carries `readDefinition` of it. -/
theorem stagedEntryDefinedOrCleared : Obligations.StagedEntryDefinedOrCleared := by
  unfold Obligations.StagedEntryDefinedOrCleared
  intro oneOf within checks carried
  have checks_eq : ∀ p, checks p = defineChecks p := by
    intro p
    have hcount : nat2 p 13 ≤ 65535 := Nat.le_of_lt_succ (nat2_lt p 13)
    simp [checks, oneOf, within, defineChecks, stepInRange_eq, isSome_routeOf, isSome_policyOf, byteAt_eq_iff, Nat.lt_succ_iff,
      hcount, Bool.beq_eq_decide_eq]
  have carried_eq : ∀ p, (∀ ok ∈ defineChecks p, ok = true) → carried p = readDefinition p := by
    intro p hpass
    have hroute := routeOf_of_isSome (hpass (routeOf (byteAt p 15)).isSome (by simp [defineChecks]))
    have hpolicy := policyOf_of_isSome (hpass (policyOf (byteAt p 21)).isSome (by simp [defineChecks]))
    simp [carried, readDefinition, hroute, hpolicy, byteAt_eq_iff]
  refine
    ⟨fun s q hq => ⟨fun hset => ?definePending, fun hclear =>
      ⟨fun r d hp hrange => ?laidOut, fun r hr hpass => ?accepted, fun i hbefore hi => ?failing⟩⟩,
     fun s q hq => ⟨fun hset => ?clearPending, fun hclear => ⟨fun hid => ?badId, fun r hr => ?cleared⟩⟩⟩
  case definePending => exact hq.exec_eq rfl rfl (s.defineRegion_of_pending q.payload hset)
  case laidOut =>
    have hid : nat1 q.payload 0 = r.val := by rw [hp]; exact nat1_of_put1 rfl (by omega)
    have hread : readDefinition q.payload = d := by rw [hp]; exact readDefinition_putDefinition _ hrange
    have hpass := defineChecks_pass (hid ▸ r.isLt) (hp ▸ defineCodesKnown_putDefinition _ d) (hread.symm ▸ hrange)
    rw [hq.exec_eq rfl rfl (State.defineRegion_of_pass hclear hid hpass), hread]
    rfl
  case accepted =>
    rw [checks_eq] at hpass
    rw [hq.exec_eq rfl rfl (State.defineRegion_of_pass hclear hr hpass), carried_eq _ hpass]
    rfl
  case failing =>
    rw [checks_eq] at hbefore hi
    exact hq.exec_eq rfl rfl (State.defineRegion_of_failing hclear (firstFailing_eq_some hbefore hi))
  case clearPending => exact hq.exec_eq rfl rfl (s.clearRegion_of_pending q.payload hset)
  case badId => exact hq.exec_eq rfl rfl (State.clearRegion_of_bad_id hclear hid)
  case cleared => exact hq.exec_eq rfl rfl (State.clearRegion_of_id hclear hr)

/-! ### COMMIT and CANCEL_COMMIT (R13, R14, R20) -/

/-- The ids that a loop over all regions serves before `r` are those below it. -/
theorem allRegions_split (r : RegionId) :
    ∃ before after, allRegions = before ++ r :: after ∧ ∀ x ∈ before, x < r := by
  refine ⟨allRegions.take r, allRegions.drop (r + 1), ?_⟩
  revert r
  decide

/-- The first id with a finding, when no lower id has one, gives the finding of a search in ascending id. -/
theorem findSome?_allRegions {α : Type} {f : RegionId → Option α} {r : RegionId} {a : α} (hr : f r = some a)
    (hlower : ∀ x, x < r → f x = none) : allRegions.findSome? f = some a := by
  obtain ⟨before, after, hsplit, hbefore⟩ := allRegions_split r
  exact List.findSome?_eq_some_iff.mpr ⟨before, r, after, hsplit, hr, fun x hx => hlower x (hbefore x hx)⟩

theorem RegionDef.isOutside_eq_false_iff (d : RegionDef) (w h : Nat) : d.isOutside w h = false ↔ d.liesIn w h := by
  simp [RegionDef.isOutside, RegionDef.liesIn]

theorem RegionDef.isTooLarge_eq_false_iff (d : RegionDef) (bpp : Nat) :
    d.isTooLarge bpp = false ↔ (d.route = .link → d.blocks bpp ≤ d.limit) := by
  simp [RegionDef.isTooLarge]

/-- The reserves of the staged entries of the ids up to `r`, added up. -/
def State.reservesUpTo (s : State) (r : RegionId) : Nat := reserveSum s.table.staged (allRegions.filter (fun x => x ≤ r))

theorem State.reservesUpTo_eq (s : State) (r : RegionId) :
    s.reservesUpTo r =
      ((allRegions.filter (fun x => x ≤ r)).map (fun x => (s.table.staged[x].map RegionDef.reserve).getD 0)).sum := by
  unfold State.reservesUpTo reserveSum
  congr 2
  funext x
  cases s.table.staged[x] <;> rfl

/-- The first cause for which the definition `d` fails validation as the staged entry of id `r` (R13). -/
def State.fitCause (s : State) (r : RegionId) (d : RegionDef) : Option FitCause :=
  if d.isOutside s.framer.width s.framer.height then some .outside
  else if d.isTooLarge s.framer.depth.bpp then some .tooLarge
  else if Config.blocks < s.reservesUpTo r then some .reserves
  else none

section
variable {s : State} {r : RegionId} {d : RegionDef}

theorem State.fitCause_outside (hout : ¬d.liesIn s.framer.width s.framer.height) : s.fitCause r d = some .outside := by
  rw [← d.isOutside_eq_false_iff, Bool.not_eq_false] at hout
  simp [State.fitCause, hout]

theorem State.fitCause_tooLarge (hin : d.liesIn s.framer.width s.framer.height)
    (hlarge : ¬(d.route = .link → d.blocks s.framer.depth.bpp ≤ d.limit)) : s.fitCause r d = some .tooLarge := by
  rw [← d.isOutside_eq_false_iff] at hin
  rw [← d.isTooLarge_eq_false_iff, Bool.not_eq_false] at hlarge
  simp [State.fitCause, hin, hlarge]

/-- A definition that lies in the frame and within its limit is left to the check of the reserves. -/
theorem State.fitCause_of_fits (hin : d.liesIn s.framer.width s.framer.height)
    (hsmall : d.route = .link → d.blocks s.framer.depth.bpp ≤ d.limit) :
    s.fitCause r d = if Config.blocks < s.reservesUpTo r then some .reserves else none := by
  rw [← d.isOutside_eq_false_iff] at hin
  rw [← d.isTooLarge_eq_false_iff] at hsmall
  simp [State.fitCause, hin, hsmall]

end

/-- What validation finds at the staged entry of id `r`. -/
def State.stagedFailure (s : State) (r : RegionId) : Option (RegionId × FitCause) :=
  s.table.staged[r].bind (fun d => (s.fitCause r d).map (fun cause => (r, cause)))

theorem State.stagedFailure_of_some {s : State} {r : RegionId} {d : RegionDef} (hd : s.table.staged[r] = some d) :
    s.stagedFailure r = (s.fitCause r d).map (fun cause => (r, cause)) := by
  rw [State.stagedFailure, hd, Option.bind_some]

theorem State.stagedFailure_eq_none {s : State} {r : RegionId}
    (h : ∀ d, s.table.staged[r] = some d → s.fitCause r d = none) : s.stagedFailure r = none := by
  cases hd : s.table.staged[r] with
  | none => rw [State.stagedFailure, hd, Option.bind_none]
  | some d => rw [State.stagedFailure_of_some hd, h d hd, Option.map_none]

/-- Validation is the search for the first entry with a failure. -/
theorem State.validateStaged_eq (s : State) :
    validateStaged s.table.staged s.framer.width s.framer.height s.framer.depth.bpp =
      allRegions.findSome? s.stagedFailure := by
  unfold validateStaged
  congr 1
  funext r
  unfold State.stagedFailure State.fitCause State.reservesUpTo
  cases s.table.staged[r] with
  | none => rfl
  | some d => dsimp only [Option.bind_some]; split_ifs <;> rfl

theorem State.commit_of_pending (s : State) (p : List Byte) (h : s.table.commitPending = true) :
    s.commit p = (s, replyPending) := by
  simp [State.commit, h]

section
variable {s : State} (p : List Byte) (hclear : s.table.commitPending = false)
include hclear

theorem State.commit_of_failure {r : RegionId} {d : RegionDef} {cause : FitCause} (hd : s.table.staged[r] = some d)
    (hcause : s.fitCause r d = some cause) (hlower : ∀ x, x < r → s.stagedFailure x = none) :
    s.commit p = (s, replyFit r cause) := by
  have hfail : s.stagedFailure r = some (r, cause) := by rw [State.stagedFailure_of_some hd, hcause, Option.map_some]
  simp [State.commit, hclear, s.validateStaged_eq, findSome?_allRegions hfail hlower]

theorem State.commit_of_valid (hvalid : ∀ r, s.stagedFailure r = none) :
    s.commit p =
      if s.framer.state = .stopped then (s.applyCommit, replyOk [0x00]) else (s.setCommitPending true, replyOk [0x01]) := by
  have hnone : allRegions.findSome? s.stagedFailure = none := List.findSome?_eq_none_iff.mpr (fun r _ => hvalid r)
  cases hstate : s.framer.state <;> simp [State.commit, hclear, s.validateStaged_eq, hnone, hstate]

end

theorem State.cancelCommit_of_pending (s : State) (p : List Byte) (h : s.table.commitPending = true) :
    s.cancelCommit p = (s.setCommitPending false, replyOk []) := by
  simp [State.cancelCommit, h]

theorem State.cancelCommit_of_clear (s : State) (p : List Byte) (h : s.table.commitPending = false) :
    s.cancelCommit p = (s, replyState) := by
  simp [State.cancelCommit, h]

/-- Settles O40: validation is a search in ascending id, so the entries below the one named have passed. -/
theorem commitAndCancelCommit : Obligations.CommitAndCancelCommit := by
  unfold Obligations.CommitAndCancelCommit
  refine ⟨fun s q hq => ?commit, fun s q hq => ⟨fun hset => ?cancel, fun hclear => ?refuseCancel⟩⟩
  case cancel => exact hq.exec_eq rfl rfl (s.cancelCommit_of_pending q.payload hset)
  case refuseCancel => exact hq.exec_eq rfl rfl (s.cancelCommit_of_clear q.payload hclear)
  case commit =>
    intro inside small reserves passes lowerPass
    have fitCause_of_passes : ∀ r d, passes r d → s.fitCause r d = none := by
      rintro r d ⟨hin, hsmall, hreserves⟩
      rw [State.fitCause_of_fits hin hsmall, s.reservesUpTo_eq r, if_neg (Nat.not_lt.mpr hreserves)]
    refine ⟨fun hset => hq.exec_eq rfl rfl (s.commit_of_pending q.payload hset), fun hclear =>
      ⟨fun r d hd hlower => ?refused, fun hall => ?accepted⟩⟩
    case refused =>
      have refused : ∀ cause, s.fitCause r d = some cause → exec .commit s = .next (s.finish q (replyFit r cause)) :=
        fun cause hcause => hq.exec_eq rfl rfl (State.commit_of_failure q.payload hclear hd hcause
          (fun x hx => State.stagedFailure_eq_none (fun d' hd' => fitCause_of_passes x d' (hlower x d' hx hd'))))
      refine ⟨fun hout => refused .outside (State.fitCause_outside hout),
        fun hin hlarge => refused .tooLarge (State.fitCause_tooLarge hin hlarge),
        fun hin hsmall hover => refused .reserves ?_⟩
      rw [State.fitCause_of_fits hin hsmall, s.reservesUpTo_eq r, if_pos hover]
    case accepted =>
      have accepted := State.commit_of_valid q.payload hclear
        (fun r => State.stagedFailure_eq_none (fun d hd => fitCause_of_passes r d (hall r d hd)))
      exact ⟨fun hstopped => hq.exec_eq rfl rfl (accepted.trans (if_pos hstopped)),
        fun hrunning => hq.exec_eq rfl rfl (accepted.trans (if_neg hrunning))⟩

end Sys2Proof.Machine
end

section
/-! SUPPORT. Proofs of the family 02_pixel_input_and_frame_tracking: the field checks and the fit of SET_INPUT, what it answers in each
case, and its statement. -/

namespace Sys2Proof.Machine

/-! ### The fields of SET_INPUT (R35) -/

theorem depthOf_eq_none {p : List Byte} {i : Nat} (h8 : nat1 p i ≠ 8) (h10 : nat1 p i ≠ 10) (h12 : nat1 p i ≠ 12) :
    depthOf (byteAt p i) = none := by
  simp [depthOf, byteAt_eq_iff, h8, h10, h12]

theorem depthOf_depthCode (depth : Depth) : depthOf (depthCode depth) = some depth := by
  cases depth <;> rfl

theorem firstFailing_three (a b c : Bool) :
    firstFailing [a, b, c] =
      if a = false then some 0 else if b = false then some 1 else if c = false then some 2 else none := by
  revert a b c
  decide

theorem within_eq_false_iff (low high n : Nat) :
    (decide (low ≤ n) && decide (n ≤ high)) = false ↔ n < low ∨ high < n := by
  rw [Bool.and_eq_false_iff, decide_eq_false_iff_not, decide_eq_false_iff_not, not_le, not_le]

/-- The field that SET_INPUT refuses: the width, then the height, then the depth. -/
theorem firstFailing_setInputChecks (p : List Byte) :
    firstFailing (setInputChecks p) =
      if nat2 p 0 < 16 ∨ 4096 < nat2 p 0 then some 0
      else if nat2 p 2 < 1 ∨ 4096 < nat2 p 2 then some 1
      else if depthOf (byteAt p 4) = none then some 2
      else none := by
  simp only [setInputChecks, firstFailing_three, within_eq_false_iff, Option.isSome_eq_false_iff, Option.isNone_iff_eq_none]

/-- The fields of a SET_INPUT payload are in range, and its depth is `depth`. -/
structure SetInputFields (p : List Byte) (depth : Depth) : Prop where
  width : 16 ≤ nat2 p 0 ∧ nat2 p 0 ≤ 4096
  height : 1 ≤ nat2 p 2 ∧ nat2 p 2 ≤ 4096
  depth : depthOf (byteAt p 4) = some depth

theorem SetInputFields.firstFailing_eq_none {p : List Byte} {depth : Depth} (h : SetInputFields p depth) :
    firstFailing (setInputChecks p) = none := by
  obtain ⟨hwidth, hheight, hdepth⟩ := h
  rw [firstFailing_setInputChecks, if_neg (by omega), if_neg (by omega), if_neg (by simp [hdepth])]

/-! ### The fit of an active entry in a new geometry (R35) -/

/-- The first cause for which a definition does not fit a geometry. -/
def RegionDef.misfit (d : RegionDef) (w h bpp : Nat) : Option FitCause :=
  if d.isOutside w h then some .outside else if d.isTooLarge bpp then some .tooLarge else none

section
variable {d : RegionDef} {w h bpp : Nat}

theorem RegionDef.misfit_outside (hout : ¬d.liesIn w h) : d.misfit w h bpp = some .outside := by
  rw [← d.isOutside_eq_false_iff, Bool.not_eq_false] at hout
  simp [RegionDef.misfit, hout]

theorem RegionDef.misfit_of_liesIn (hin : d.liesIn w h) :
    d.misfit w h bpp = if d.isTooLarge bpp then some .tooLarge else none := by
  rw [← d.isOutside_eq_false_iff] at hin
  simp [RegionDef.misfit, hin]

theorem RegionDef.misfit_tooLarge (hin : d.liesIn w h) (hlarge : ¬(d.route = .link → d.blocks bpp ≤ d.limit)) :
    d.misfit w h bpp = some .tooLarge := by
  rw [← d.isTooLarge_eq_false_iff, Bool.not_eq_false] at hlarge
  rw [RegionDef.misfit_of_liesIn hin, if_pos hlarge]

theorem RegionDef.misfit_of_fits (hin : d.liesIn w h) (hsmall : d.route = .link → d.blocks bpp ≤ d.limit) :
    d.misfit w h bpp = none := by
  rw [← d.isTooLarge_eq_false_iff] at hsmall
  rw [RegionDef.misfit_of_liesIn hin, hsmall, if_neg Bool.false_ne_true]

end

/-- The entry of id `r` is active with definition `d` and is not UNUSED: SET_INPUT tests it. -/
def State.Uses (s : State) (r : RegionId) (d : RegionDef) : Prop :=
  (s.entry r).definition = some d ∧ (s.entry r).run ≠ .unused

/-- What SET_INPUT finds at the active entry of id `r`. -/
def State.activeFailure (s : State) (w h bpp : Nat) (r : RegionId) : Option (RegionId × FitCause) :=
  if (s.entry r).run = .unused then none
  else (s.entry r).definition.bind (fun d => (d.misfit w h bpp).map (fun cause => (r, cause)))

section
variable {s : State} {w h bpp : Nat} {r : RegionId}

theorem State.activeFailure_of_uses {d : RegionDef} (hd : s.Uses r d) :
    s.activeFailure w h bpp r = (d.misfit w h bpp).map (fun cause => (r, cause)) := by
  obtain ⟨hdef, hrun⟩ := hd
  rw [State.activeFailure, if_neg hrun, hdef, Option.bind_some]

theorem State.activeFailure_eq_none (hfit : ∀ d, s.Uses r d → d.misfit w h bpp = none) :
    s.activeFailure w h bpp r = none := by
  by_cases hrun : (s.entry r).run = .unused
  · exact if_pos hrun
  · cases hd : (s.entry r).definition with
    | none => rw [State.activeFailure, if_neg hrun, hd, Option.bind_none]
    | some d => rw [State.activeFailure_of_uses ⟨hd, hrun⟩, hfit d ⟨hd, hrun⟩, Option.map_none]

/-- The fit of SET_INPUT is the search for the first active entry with a failure. -/
theorem State.activeMisfit_eq : s.activeMisfit w h bpp = allRegions.findSome? (s.activeFailure w h bpp) := by
  unfold State.activeMisfit
  congr 1
  funext r
  unfold State.activeFailure RegionDef.misfit
  cases (s.entry r).definition with
  | none => simp
  | some d => dsimp only [Option.bind_some]; split_ifs <;> rfl

theorem State.activeMisfit_eq_some {d : RegionDef} {cause : FitCause} (hd : s.Uses r d) (hcause : d.misfit w h bpp = some cause)
    (hlower : ∀ x d', x < r → s.Uses x d' → d'.misfit w h bpp = none) : s.activeMisfit w h bpp = some (r, cause) := by
  have hfail : s.activeFailure w h bpp r = some (r, cause) := by rw [State.activeFailure_of_uses hd, hcause, Option.map_some]
  rw [State.activeMisfit_eq]
  exact findSome?_allRegions hfail (fun x hx => State.activeFailure_eq_none (fun d' => hlower x d' hx))

theorem State.activeMisfit_eq_none (hfit : ∀ r d, s.Uses r d → d.misfit w h bpp = none) : s.activeMisfit w h bpp = none := by
  rw [State.activeMisfit_eq]
  exact List.findSome?_eq_none_iff.mpr (fun r _ => State.activeFailure_eq_none (hfit r))

end

/-! ### What SET_INPUT answers (R35) -/

theorem State.setInput_of_running (s : State) (p : List Byte) (h : s.framer.state ≠ .stopped) :
    s.setInput p = (s, replyState) := by
  simp [State.setInput, h]

section
variable {s : State} {p : List Byte} (hstopped : s.framer.state = .stopped)
include hstopped

theorem State.setInput_of_failing {i : Nat} (hi : firstFailing (setInputChecks p) = some i) :
    s.setInput p = (s, replyValue i) := by
  simp [State.setInput, hstopped, hi]

variable {depth : Depth} (hfields : SetInputFields p depth)
include hfields

theorem State.setInput_of_misfit {r : RegionId} {cause : FitCause}
    (hmisfit : s.activeMisfit (nat2 p 0) (nat2 p 2) depth.bpp = some (r, cause)) : s.setInput p = (s, replyFit r cause) := by
  simp [State.setInput, hstopped, hfields.firstFailing_eq_none, hfields.depth, hmisfit]

theorem State.setInput_of_fit (hfit : s.activeMisfit (nat2 p 0) (nat2 p 2) depth.bpp = none) :
    s.setInput p =
      ({ s with framer := { s.framer with width := nat2 p 0, height := nat2 p 2, depth := depth } }, replyOk []) := by
  simp [State.setInput, hstopped, hfields.firstFailing_eq_none, hfields.depth, hfit]

end

/-- Settles O36: the fields have one first failure, and the fit is a search in ascending id, so the entries below the one named
have passed. -/
theorem setInputChecksStateFieldsFit : Obligations.SetInputChecksStateFieldsFit := by
  unfold Obligations.SetInputChecksStateFieldsFit
  intro s q hq w h used inside small lowerFit
  have refusedField : ∀ i, s.framer.state = .stopped → firstFailing (setInputChecks q.payload) = some i →
      exec .setInput s = .next (s.finish q (replyValue i)) :=
    fun i hstopped hi => hq.exec_eq rfl rfl (State.setInput_of_failing hstopped hi)
  refine ⟨fun hrunning => ?state, fun hstopped =>
    ⟨fun hw => refusedField 0 hstopped ?width, fun hw1 hw2 hh => refusedField 1 hstopped ?height, fun hw1 hw2 hh1 hh2 =>
      ⟨fun h8 h10 h12 => refusedField 2 hstopped ?depth, fun depth hdepth => ?fit⟩⟩⟩
  case state => exact hq.exec_eq rfl rfl (s.setInput_of_running q.payload hrunning)
  case width => rw [firstFailing_setInputChecks, if_pos hw]
  case height => rw [firstFailing_setInputChecks, if_neg (by omega), if_pos hh]
  case depth =>
    rw [firstFailing_setInputChecks, if_neg (by omega), if_neg (by omega), if_pos (depthOf_eq_none h8 h10 h12)]
  case fit =>
    intro p
    have hbpp : p = depth.bpp := by cases depth <;> rfl
    have hcode : byteAt q.payload 4 = depthCode depth :=
      (byteAt_eq_iff q.payload 4 (depthCode depth)).mpr (hdepth.trans (by cases depth <;> rfl))
    have hfields : SetInputFields q.payload depth := ⟨⟨hw1, hw2⟩, ⟨hh1, hh2⟩, hcode ▸ depthOf_depthCode depth⟩
    have fits : ∀ d, inside d ∧ small d p → d.misfit w h depth.bpp = none :=
      fun d ⟨hin, hsmall⟩ => RegionDef.misfit_of_fits hin (hbpp ▸ hsmall)
    have refused : ∀ r d cause, used r d → lowerFit r p → d.misfit w h depth.bpp = some cause →
        exec .setInput s = .next (s.finish q (replyFit r cause)) :=
      fun r d cause hd hlower hcause => hq.exec_eq rfl rfl (State.setInput_of_misfit hstopped hfields
        (State.activeMisfit_eq_some hd hcause (fun x d' hx hd' => fits d' (hlower x d' hx hd'))))
    refine ⟨fun r d hd hlower hout => ?outside, fun r d hd hlower hin hlarge => ?tooLarge, fun hall => ?accepted⟩
    case outside => exact refused r d .outside hd hlower (RegionDef.misfit_outside hout)
    case tooLarge => exact refused r d .tooLarge hd hlower (RegionDef.misfit_tooLarge hin (hbpp ▸ hlarge))
    case accepted =>
      have hfit := State.activeMisfit_eq_none (fun r d hd => fits d (hall r d hd))
      exact hq.exec_eq rfl rfl (State.setInput_of_fit hstopped hfields hfit)

end Sys2Proof.Machine
end

section
/-! SUPPORT. Proofs of the family 04_capture_memory_and_block_accounting: what the pool law says of the counts, where the reply to
POOL_STATUS holds each of them, and its statement. -/

namespace Sys2Proof.Machine

/-- The ids that the loops serve are all ids. -/
theorem allRegions_eq_finRange : allRegions = List.finRange 16 := rfl

/-! ### The counts under the law of the pool (R67, R81) -/

/-- Chain lengths added up region by region, over every region, are the chain lengths of all captures. -/
theorem sum_chainLengths_by_region (captures : List Capture) :
    (allRegions.map (fun r => ((captures.filter (fun c => c.region = r)).map (fun c => c.chain.length)).sum)).sum =
      (captures.flatMap Capture.chain).length := by
  rw [allRegions_eq_finRange, ← Fin.sum_univ_def]
  induction captures with
  | nil => simp
  | cons c rest ih =>
    have hcons : ∀ r : RegionId,
        (((c :: rest).filter (fun x => x.region = r)).map (fun x => x.chain.length)).sum =
          (if c.region = r then c.chain.length else 0) +
            ((rest.filter (fun x => x.region = r)).map (fun x => x.chain.length)).sum := by
      intro r
      by_cases hr : c.region = r <;> simp [hr]
    simp only [hcons, Finset.sum_add_distrib, ih]
    simp

/-- Under the law of the pool the 512 blocks are those held by the 16 regions and those that are free. -/
theorem State.PoolLaw.sum_held_add_freeCount {s : State} (h : s.PoolLaw) : (allRegions.map s.held).sum + s.freeCount = 512 := by
  have hheld : (allRegions.map s.held).sum = s.chainBlocks.length := sum_chainLengths_by_region s.captures
  have hblocks : s.freeCount + s.chainBlocks.length = 512 := by
    simpa [State.freeCount, Config.blocks] using h.length_eq
  omega

/-- No region holds more blocks than there are. -/
theorem State.PoolLaw.held_le {s : State} (h : s.PoolLaw) (r : RegionId) : s.held r ≤ 512 := by
  have hr : r ∈ allRegions := allRegions_eq_finRange ▸ List.mem_finRange r
  have hpart : s.held r ≤ (allRegions.map s.held).sum := List.le_sum_of_mem (List.mem_map_of_mem hr)
  have htotal := h.sum_held_add_freeCount
  omega

/-- There are 48 records (R84). -/
theorem State.freeRecords_length_le (s : State) : s.freeRecords.length ≤ 48 :=
  (List.length_filter_le _ _).trans_eq List.length_range

/-! ### The layout of the reply (R161, R162) -/

/-- A number laid out in two bytes is read back modulo 65536. -/
theorem nat2_of_put2_mod {p : List Byte} {i n : Nat} (hlow : byteAt p i = BitVec.ofNat 8 n)
    (hhigh : byteAt p (i + 1) = BitVec.ofNat 8 (n / 256)) : nat2 p i = n % 65536 := by
  rw [nat2, nat1, nat1, hlow, hhigh, BitVec.toNat_ofNat, BitVec.toNat_ofNat]
  omega

theorem byteAt_append_right (front rest : List Byte) (i : Nat) : byteAt (front ++ rest) (front.length + i) = byteAt rest i := by
  rw [byteAt, List.getD_append_right _ _ _ _ (Nat.le_add_right _ _), Nat.add_sub_cancel_left, byteAt]

theorem nat2_append_right (front rest : List Byte) (i : Nat) : nat2 (front ++ rest) (front.length + i) = nat2 rest i := by
  simp only [nat2, nat1, Nat.add_assoc, byteAt_append_right]

/-- In a table of two-byte numbers, entry `k` stands at offset `2 * k`. -/
theorem nat2_flatMap_put2 {α : Type} (f : α → Nat) {l : List α} {k : Nat} {a : α} (hk : l[k]? = some a) :
    nat2 (l.flatMap (fun x => put2 (f x))) (2 * k) = f a % 65536 := by
  induction l generalizing k with
  | nil => simp at hk
  | cons x rest ih =>
    rw [List.flatMap_cons]
    cases k with
    | zero =>
      obtain rfl : x = a := by simpa using hk
      exact nat2_of_put2_mod rfl rfl
    | succ k =>
      rw [Nat.mul_succ, Nat.add_comm]
      exact (nat2_append_right (put2 (f x)) _ (2 * k)).trans (ih (by simpa using hk))

theorem length_flatMap_put2 {α : Type} (f : α → Nat) (l : List α) : (l.flatMap (fun x => put2 (f x))).length = 2 * l.length := by
  simp [put2, Nat.mul_comm]

theorem allRegions_getElem? (r : RegionId) : allRegions[r.val]? = some r := by
  simp [allRegions_eq_finRange]

/-- The reply to POOL_STATUS: six bytes, then the table of held counts. -/
theorem State.replyOk_poolStatusItems (s : State) :
    replyOk s.poolStatusItems =
      [0x00, BitVec.ofNat 8 s.freeCount, BitVec.ofNat 8 (s.freeCount / 256), BitVec.ofNat 8 s.freeRecords.length,
        BitVec.ofNat 8 s.unmetTotal, BitVec.ofNat 8 (s.unmetTotal / 256)] ++
      allRegions.flatMap (fun r => put2 (s.held r)) := rfl

theorem State.poolStatus_held (s : State) (r : RegionId) :
    nat2 (replyOk s.poolStatusItems) (6 + 2 * r.val) = s.held r % 65536 := by
  rw [s.replyOk_poolStatusItems]
  exact (nat2_append_right _ _ _).trans (nat2_flatMap_put2 s.held (allRegions_getElem? r))

/-- Settles O35: each count is read at its offset of the reply, and under the law of the pool none is cut short by its width. -/
theorem poolStatusCountsSumTo512 : Obligations.PoolStatusCountsSumTo512 := by
  unfold Obligations.PoolStatusCountsSumTo512
  intro s q hq hpool
  have htotal := hpool.sum_held_add_freeCount
  have hfree : nat2 (replyOk s.poolStatusItems) 1 = s.freeCount := nat2_of_put2 rfl rfl (by omega)
  have hheld (r : RegionId) : nat2 (replyOk s.poolStatusItems) (6 + 2 * r.val) = s.held r := by
    have hle := hpool.held_le r
    rw [s.poolStatus_held, Nat.mod_eq_of_lt (by omega)]
  refine ⟨replyOk s.poolStatusItems, hq.exec_eq rfl rfl rfl, ?length, rfl, hfree, ?records, nat2_of_put2_mod rfl rfl, hheld, ?sum⟩
  case length => rw [s.replyOk_poolStatusItems, List.length_append, length_flatMap_put2]; rfl
  case records =>
    have hle := s.freeRecords_length_le
    exact nat1_of_put1 rfl (by omega)
  case sum =>
    simp only [hheld, hfree]
    exact htotal

end Sys2Proof.Machine
end

section
/-! SUPPORT. Proofs of the family 06_drain_ports: what a stray take does, what a reset of the part leaves of a drain, where the items
of DRAIN_STATUS stand, and its statement. -/

namespace Sys2Proof.Machine

/-! ### A take with DxRQ low (R105) -/

/-- A 2-byte count stays at 65535. -/
theorem satInc_half (n : Half) : satInc n = if n = 65535 then 65535 else n + 1 := by
  by_cases hmax : n = 65535
  · subst hmax
    rfl
  · rw [if_neg hmax]
    exact if_neg hmax

/-- With DxRQ low a take is stray, whatever the drain's state. -/
theorem State.exec_take_of_low {s : State} {d : DrainId} (h : (s.drain d).rq = .low) :
    exec (.take d) s = .next (s.strayTake d) := by
  have arm : exec (.take d) s = execTake d s := rfl
  rw [arm, execTake, h]

/-! ### A drain after a reset of the part (R103, R153) -/

@[simp] theorem State.partReset_drain (s : State) (cause : ResetCause) (d : DrainId) :
    (s.partReset cause).drain d = Drain.reset := by
  cases d <;> rfl

/-! ### The layout of DRAIN_STATUS (R124, R162) -/

@[simp] theorem length_put1 (n : Nat) : (put1 n).length = 1 := rfl

@[simp] theorem length_put2 (n : Nat) : (put2 n).length = 2 := rfl

@[simp] theorem length_put4 (n : Nat) : (put4 n).length = 4 := rfl

@[simp] theorem length_putFlag (b : Bool) : (putFlag b).length = 1 := by
  cases b <;> rfl

@[simp] theorem length_putPosition (p : Option Position) : (putPosition p).length = 5 := by
  rcases p with _ | ⟨_ | _ | _⟩ <;> rfl

/-- The head takes 14 bytes, with and without an ACTIVE head. -/
@[simp] theorem State.length_headItems (s : State) (d : DrainId) : (s.headItems d).length = 14 := by
  unfold State.headItems
  split <;> simp

/-- The items of DRAIN_STATUS before the stray-take count. -/
def State.drainStatusFront (s : State) (d : DrainId) : List Byte :=
  [drainCode d, drainStateCode (s.drain d).state] ++ put1 (s.drain d).queue.length ++ s.headItems d ++
  putFlag ((s.drain d).rq = .high) ++ put1 (s.drain d).grain ++ put1 (s.drain d).timeout

theorem State.drainStatusItems_eq (s : State) (d : DrainId) :
    s.drainStatusItems d = s.drainStatusFront d ++ put2 (s.drain d).stray.toNat := rfl

@[simp] theorem State.length_drainStatusFront (s : State) (d : DrainId) : (s.drainStatusFront d).length = 20 := by
  simp [State.drainStatusFront]

/-- The last item of DRAIN_STATUS, at offset 20, is the stray-take count. -/
theorem State.drainStatusItems_stray (s : State) (d : DrainId) :
    nat2 (s.drainStatusItems d) 20 = (s.drain d).stray.toNat := by
  have hoffset := nat2_append_right (s.drainStatusFront d) (put2 (s.drain d).stray.toNat) 0
  rw [s.length_drainStatusFront, Nat.add_zero] at hoffset
  rw [s.drainStatusItems_eq, hoffset]
  exact nat2_of_put2 rfl rfl (s.drain d).stray.isLt

/-- Settles O48: `exec` looks at DxRQ before anything else of the drain, a reset makes the drain anew, and the items before the count
have a fixed length. -/
theorem strayTakeIsCountedOnly : Obligations.StrayTakeIsCountedOnly := by
  unfold Obligations.StrayTakeIsCountedOnly
  refine ⟨fun s d hlow => ?taken, fun s d cause => ?cleared, fun s d => s.drainStatusItems_stray d⟩
  case taken => rw [State.exec_take_of_low hlow, State.strayTake, satInc_half]
  case cleared => rw [s.partReset_drain, Drain.reset]

end Sys2Proof.Machine
end

section
/-! SUPPORT. Proofs of the family 08_notices_and_status_reports: the bytes of the reply to IDENTIFY, and its statement. -/

namespace Sys2Proof.Machine

/-- The layout of the reply to IDENTIFY (R155, R162): the two-byte items are vendor code, part number, blocks and block size, low byte
first (R161). -/
theorem replyOk_identifyItems :
    replyOk identifyItems =
      [0x00, 0x52, 0x4D, 0x54, 0x06, 0x03, 0x10, 0x00, 0x02, 0x00, 0x02, 0x30, 0x08, 0x02, 0x04, 0x04, 0xC0] := by
  decide

/-- Settles O32: the body answers the state as it is, and items that no field of the state enters. -/
theorem identifyRepliesFixedFacts : Obligations.IdentifyRepliesFixedFacts := by
  unfold Obligations.IdentifyRepliesFixedFacts
  intro s q hq
  rw [← replyOk_identifyItems]
  exact hq.exec_eq rfl rfl rfl

end Sys2Proof.Machine
end

section
/-! SUPPORT. What a command can do to the captures, the memory and the drains: a short list of effects, and the proof that every command is
a run of them. The laws of the Directory, the pool and the drains are proved of the effects, and so of every step. -/

namespace Sys2Proof.Machine

/-! ### Parts of the state that an operation leaves -/

/-- The captures, the memory and the drains are the same. -/
structure State.SameStore (s t : State) : Prop where
  memory : t.memory = s.memory
  captures : t.captures = s.captures
  drainA : t.drainA = s.drainA
  drainB : t.drainB = s.drainB

theorem State.SameStore.drain {s t : State} (h : s.SameStore t) (d : DrainId) : t.drain d = s.drain d := by
  cases d
  · exact h.drainA
  · exact h.drainB

theorem State.SameStore.head {s t : State} (h : s.SameStore t) (d : DrainId) : t.head d = s.head d := by
  unfold State.head State.capture
  rw [h.drain d, h.captures]

/-- A drain keeps its queue and stays with or without an ACTIVE head; only its settings, its state, its burst and its position within the
layout move. -/
structure Drain.Adjusts (x y : Drain) : Prop where
  queue : y.queue = x.queue
  hasHead : y.hasHead = x.hasHead
  idle : y.state = .idle → x.state = .idle ∨ x.queue = []
  restful : x.restful = true → y.restful = true
  position : ∀ p, x.position = some p → p.inLayout = true → ∃ p', y.position = some p' ∧ p'.inLayout = true

/-! ### The effects -/

/-- When an effect may come in a command: pixels are written before records are opened, and the rest comes at any time. RELEASE, a link break
and the resets stand alone. -/
inductive Phase where
  | writing
  | opening
  | ending

/-- One effect of a command on the captures, the memory and the drains. `D` says that the records had distinct numbers when the command began. -/
inductive Effect (D : Prop) : Phase → State → State → Prop
  /-- Nothing of the captures, the memory and the drains changes. -/
  | quiet {ph : Phase} {s t : State} (h : s.SameStore t) : Effect D ph s t
  /-- A granted block finds no record; from records with distinct numbers this does not happen. -/
  | astray {ph : Phase} {s t : State} (hD : ¬D) (hm : t.memory.cells = s.memory.cells) (hA : t.drainA = s.drainA)
      (hB : t.drainB = s.drainB) (hc : (t.captures.map Capture.slot).Sublist (s.captures.map Capture.slot)) : Effect D ph s t
  /-- A drain is set anew, with its queue and its head. -/
  | adjust {ph : Phase} {s : State} (d : DrainId) (y : Drain) (h : (s.drain d).Adjusts y) : Effect D ph s (s.setDrain d y)
  /-- A capture that no reader holds is freed. -/
  | free {ph : Phase} {s : State} (c : Capture) (hw : c.delivery = .waiting) (hc : D → c ∈ s.captures) :
      Effect D ph s (s.freeCapture c)
  /-- The FILLING head of a drain becomes ABANDONED. -/
  | mark {ph : Phase} {s : State} (c : Capture) (reason : LossReason) (ha : c.delivery = .active)
      (hc : D → s.openCapture c.region = some c) :
      Effect D ph s ((s.returnBlocks c.chain).updateCapture c.slot
        (fun x => { x with chain := [], fill := .abandoned, abandonReason := some reason }))
  /-- A FILLING capture with every byte written becomes COMPLETE. -/
  | fill {s : State} (c : Capture) (hc : s.openCapture c.region = some c) (hb : c.bytesWritten = c.bytesExpected) :
      Effect D .writing s (s.updateCapture c.slot (fun x => { x with fill := .complete }))
  /-- A COMPLETE/WAITING link capture is fetched. -/
  | fetch {ph : Phase} {s : State} (c : Capture) (hc : c ∈ s.captures) (hl : c.route = .link) (hw : c.isWaiting = true) :
      Effect D ph s (s.updateCapture c.slot (fun x => { x with delivery := .active }))
  /-- A drain without an ACTIVE head promotes its oldest entry. -/
  | promote {ph : Phase} {s : State} (d : DrainId) (h : (s.drain d).hasHead = false) : Effect D ph s (s.promote d)
  /-- A drain ends its head without a trailer. -/
  | endHead {ph : Phase} {s : State} (d : DrainId) (reason : LossReason) (st : DrainState) (h : (s.drain d).hasHead = true)
      (hst : st = .disabled ∨ st = .fault) : Effect D ph s (s.endHead d reason st)
  /-- A data word of a drain's head is sent. -/
  | send {ph : Phase} {s : State} (d : DrainId) (c : Capture) (k : Nat) (hc : s.head d = some c) : Effect D ph s (s.sendDataWord c k)
  /-- Trailer word 1 of a drain's head is taken. -/
  | lastTake {ph : Phase} {s : State} (d : DrainId) (c : Capture) (hc : s.head d = some c) (hq : (s.drain d).rq = .high) :
      Effect D ph s ((s.freeCapture c).moveOn d)
  /-- A pixel is written, with a block granted for it at a block boundary, and the drain is told. -/
  | write {s u : State} {c c' : Capture} (v : Half) (hc : D → s.openCapture c.region = some c)
      (hu : (c.bytesWritten % Config.blockSize ≠ 0 ∧ u = s) ∨
        (c.bytesWritten % Config.blockSize = 0 ∧ s.memory.freePool ≠ [] ∧ u = s.grantBlock c.slot))
      (hc' : D → u.capture c.slot = some c') : Effect D .writing s ((u.storePixel c' v).tellDrainOfWrite c')
  /-- A record is taken and opened. -/
  | opens {s : State} (slot : Nat) (r : RegionId) (seq : Half) (d : RegionDef) (hslot : slot ∈ s.freeRecords) :
      Effect D .opening s
        { s with captures := s.captures ++ [openedCapture slot r seq s.framer.frameNumber d s.framer.depth.bpp] }
  /-- A fetched capture is released. -/
  | release {s : State} (c : Capture) (hc : c ∈ s.captures) (hl : c.route = .link) (ha : c.delivery = .active) :
      Effect D .ending s (s.freeCapture c)
  /-- A link break returns the fetched captures. -/
  | returned {s t : State} (hm : t.memory = s.memory) (hc : t.captures = s.captures.map Capture.returned)
      (hA : t.drainA = s.drainA) (hB : t.drainB = s.drainB) : Effect D .ending s t
  /-- The part is reset. -/
  | reset {s : State} (cause : ResetCause) : Effect D .ending s (s.partReset cause)

/-- A run of effects. -/
def Effects (D : Prop) (ph : Phase) : State → State → Prop := Relation.ReflTransGen (Effect D ph)

theorem Effects.refl {D : Prop} {ph : Phase} {s : State} : Effects D ph s s := Relation.ReflTransGen.refl

theorem Effects.trans {D : Prop} {ph : Phase} {s t u : State} (h : Effects D ph s t) (h' : Effects D ph t u) : Effects D ph s u :=
  Relation.ReflTransGen.trans h h'

theorem Effect.run {D : Prop} {ph : Phase} {s t : State} (h : Effect D ph s t) : Effects D ph s t := Relation.ReflTransGen.single h

/-- What a command that is no RELEASE, link break or reset does: pixels first, opens after them. -/
def Steps (D : Prop) (s t : State) : Prop := ∃ u, Effects D .writing s u ∧ Effects D .opening u t

/-- What every effect keeps, a run of effects keeps. -/
theorem Effects.keeps {D : Prop} {ph : Phase} {P : State → Prop} (h : ∀ {s t}, Effect D ph s t → P s → P t) {s t : State}
    (hst : Effects D ph s t) (hs : P s) : P t := by
  induction hst with
  | refl => exact hs
  | tail _ hlast ih => exact h hlast ih

theorem Steps.keeps {D : Prop} {P : State → Prop} (h : ∀ {ph s t}, Effect D ph s t → P s → P t) {s t : State}
    (hst : Steps D s t) (hs : P s) : P t := by
  obtain ⟨u, hw, ho⟩ := hst
  exact ho.keeps h (hw.keeps h hs)

theorem Steps.of_writing {D : Prop} {s t : State} (h : Effects D .writing s t) : Steps D s t := ⟨t, h, .refl⟩

theorem Steps.then_opening {D : Prop} {s t u : State} (h : Steps D s t) (h' : Effects D .opening t u) : Steps D s u := by
  obtain ⟨w, hw, ho⟩ := h
  exact ⟨w, hw, ho.trans h'⟩

/-! ### One record among records with distinct numbers -/

/-- A record stands between others with other numbers; so a change or a free by its number reaches it alone. -/
theorem State.RecordsDistinct.split {s : State} (h : s.RecordsDistinct) {c : Capture} (hc : c ∈ s.captures) :
    ∃ before after, s.captures = before ++ c :: after ∧ (∀ x ∈ before ++ after, x.slot ≠ c.slot) ∧
      (∀ f : Capture → Capture, s.captures.map (fun x => if x.slot = c.slot then f x else x) = before ++ f c :: after) ∧
      s.captures.filter (fun x => x.slot ≠ c.slot) = before ++ after := by
  obtain ⟨before, after, hsplit⟩ := List.append_of_mem hc
  have hnodup := h.1
  rw [hsplit, List.map_append, List.map_cons, List.nodup_middle, List.nodup_cons, ← List.map_append, List.mem_map] at hnodup
  have hne : ∀ x ∈ before ++ after, x.slot ≠ c.slot := fun x hx heq => hnodup.1 ⟨x, hx, heq⟩
  have hmap : ∀ (f : Capture → Capture) (l : List Capture), (∀ x ∈ l, x.slot ≠ c.slot) →
      l.map (fun x => if x.slot = c.slot then f x else x) = l :=
    fun f l hl => (List.map_congr_left (fun x hx => if_neg (hl x hx))).trans l.map_id
  have hbefore : ∀ x ∈ before, x.slot ≠ c.slot := fun x hx => hne x (List.mem_append_left _ hx)
  have hafter : ∀ x ∈ after, x.slot ≠ c.slot := fun x hx => hne x (List.mem_append_right _ hx)
  refine ⟨before, after, hsplit, hne, fun f => ?_, ?_⟩
  · rw [hsplit, List.map_append, List.map_cons, hmap f before hbefore, hmap f after hafter, if_pos rfl]
  · rw [hsplit, List.filter_append, List.filter_cons_of_neg (by simp), List.filter_eq_self.mpr (by simpa using hbefore),
      List.filter_eq_self.mpr (by simpa using hafter)]

theorem State.RecordsDistinct.capture_eq {s : State} (h : s.RecordsDistinct) {c : Capture} (hc : c ∈ s.captures) :
    s.capture c.slot = some c := by
  obtain ⟨before, after, hsplit, hne, -, -⟩ := h.split hc
  rw [State.capture, hsplit, List.find?_append, List.find?_eq_none.mpr, Option.none_or, List.find?_cons_of_pos] <;>
    simp_all

theorem State.RecordsDistinct.eq_of_slot {s : State} (h : s.RecordsDistinct) {c x : Capture} (hc : c ∈ s.captures)
    (hx : x ∈ s.captures) (hslot : x.slot = c.slot) : x = c := by
  have hx' := h.capture_eq hx
  rw [hslot, h.capture_eq hc] at hx'
  exact (Option.some.inj hx').symm

theorem State.capture_eq_some {s : State} {n : Nat} {c : Capture} (h : s.capture n = some c) : c ∈ s.captures ∧ c.slot = n :=
  ⟨List.mem_of_find?_eq_some h, by simpa using List.find?_some h⟩

/-- The open capture of a region is the first FILLING record of the region. -/
theorem State.openCapture_eq (s : State) (r : RegionId) :
    s.openCapture r = s.captures.find? (fun c => c.region = r && c.fill = .filling) := by
  simp [State.openCapture, State.captureList, List.find?_filter]

theorem State.openCapture_eq_some {s : State} {r : RegionId} {c : Capture} (h : s.openCapture r = some c) :
    c ∈ s.captures ∧ c.region = r ∧ c.fill = .filling := by
  rw [State.openCapture_eq] at h
  exact ⟨List.mem_of_find?_eq_some h, by simpa using List.find?_some h⟩

/-! ### The slots of the records -/

theorem map_slot_update (l : List Capture) (n : Nat) {f : Capture → Capture} (hf : ∀ c, (f c).slot = c.slot) :
    (l.map (fun c => if c.slot = n then f c else c)).map Capture.slot = l.map Capture.slot := by
  rw [List.map_map]
  refine List.map_congr_left (fun c _ => ?_)
  by_cases hn : c.slot = n <;> simp [hn, hf]

theorem State.updateCapture_slots (s : State) (n : Nat) {f : Capture → Capture} (hf : ∀ c, (f c).slot = c.slot) :
    (s.updateCapture n f).captures.map Capture.slot = s.captures.map Capture.slot := map_slot_update s.captures n hf

/-- A promotion makes the record at the head of the queue ACTIVE. -/
theorem State.promote_captures (s : State) (d : DrainId) :
    (s.promote d).captures =
      s.captures.map (fun c => if some c.slot = (s.drain d).queue.head? then { c with delivery := .active } else c) := by
  unfold State.promote
  cases (s.drain d).queue <;> simp


theorem State.setDrain_setDrain_comm (s : State) {d e : DrainId} (h : e ≠ d) (x y : Drain) :
    (s.setDrain d x).setDrain e y = (s.setDrain e y).setDrain d x := by
  cases d <;> cases e <;> first | exact absurd rfl h | rfl

/-! ### Adjustments of a drain -/

theorem Drain.Adjusts.refl (x : Drain) : x.Adjusts x :=
  ⟨rfl, rfl, fun h => .inl h, fun h => h, fun p hp hl => ⟨p, hp, hl⟩⟩

theorem Drain.restful_iff {x : Drain} :
    x.restful = true ↔ x.hasHead = true ∨ (x.rq = .low ∧ x.burst = 0 ∧ x.timer = .stopped ∧ x.position = none) := by
  simp [Drain.restful, and_assoc]

/-- A drain with DxRQ high is not at rest, so it has a head. -/
theorem Drain.hasHead_of_high {x : Drain} (hr : x.restful = true) (hq : x.rq = .high) : x.hasHead = true := by
  simpa [Drain.restful, hq] using hr

/-- The evaluation of the burst condition, as a setting of the drain. -/
theorem State.evaluateBurst_adjusts (s : State) (d : DrainId) :
    ∃ y, (s.drain d).Adjusts y ∧ y.position = (s.drain d).position ∧ s.evaluateBurst d = s.setDrain d y := by
  have low : (s.drain d).Adjusts { s.drain d with rq := .low, burst := 0, timer := .stopped } :=
    ⟨rfl, rfl, fun h => .inl h, fun h => Drain.restful_iff.mpr ((Drain.restful_iff.mp h).imp id fun hrest => ⟨rfl, rfl, rfl, hrest.2.2.2⟩),
      fun p hp hl => ⟨p, hp, hl⟩⟩
  unfold State.evaluateBurst
  dsimp only
  split
  · split
    · rename_i hready
      have hhead : (s.drain d).hasHead = true := by simp_all
      refine ⟨{ s.drain d with rq := .high, burst := _, timer := _ },
        ⟨rfl, rfl, fun h => .inl h, fun _ => ?_, fun p hp hl => ⟨p, hp, hl⟩⟩, rfl, rfl⟩
      exact Bool.or_eq_true_iff.mpr (.inl hhead)
    · exact ⟨_, low, rfl, rfl⟩
  · exact ⟨_, low, rfl, rfl⟩

theorem State.evaluateIfLow_adjusts (s : State) (d : DrainId) :
    ∃ y, (s.drain d).Adjusts y ∧ y.position = (s.drain d).position ∧ s.evaluateIfLow d = s.setDrain d y := by
  unfold State.evaluateIfLow
  split
  · exact s.evaluateBurst_adjusts d
  · exact ⟨s.drain d, .refl _, rfl, (s.setDrain_drain d).symm⟩

/-- The cut to the trailer, as a setting of the drain. -/
theorem State.cutToTrailer_adjusts (s : State) (d : DrainId) : ∃ y, (s.drain d).Adjusts y ∧ s.cutToTrailer d = s.setDrain d y := by
  unfold State.cutToTrailer
  split
  · rename_i hhead
    obtain ⟨y, hy, hp, heq⟩ := (s.setDrain d { s.drain d with burst := 0, position := some (.trailer 0) }).evaluateBurst_adjusts d
    rw [State.drain_setDrain] at hy hp
    have hhead' : y.hasHead = true := hy.hasHead.trans hhead
    refine ⟨y, ⟨hy.queue, hy.hasHead, hy.idle, fun _ => ?_, fun p _ _ => ⟨.trailer 0, hp, rfl⟩⟩, ?_⟩
    · exact Bool.or_eq_true_iff.mpr (.inl hhead')
    · rw [heq, State.setDrain_setDrain]
  · exact ⟨s.drain d, .refl _, (s.setDrain_drain d).symm⟩

theorem Position.nextPosition_inLayout {c : Capture} {p p' : Position} (h : c.nextPosition p = some p') : p'.inLayout = true := by
  cases p <;> simp only [Capture.nextPosition] at h <;> split_ifs at h <;> cases h <;> simp_all [Position.inLayout]

/-- Trailer word 1 is the last position of the layout. -/
theorem Capture.nextPosition_of_ne {c : Capture} {p : Position} (hl : p.inLayout = true) (hp : p ≠ .trailer 1) :
    ∃ p', c.nextPosition p = some p' := by
  cases p with
  | header i => unfold Capture.nextPosition; dsimp only; split_ifs <;> exact ⟨_, rfl⟩
  | data k => unfold Capture.nextPosition; dsimp only; split_ifs <;> exact ⟨_, rfl⟩
  | trailer j =>
    have hj : j < 2 := by simpa [Position.inLayout] using hl
    have h0 : j = 0 := by
      have : j ≠ 1 := fun h => hp (h ▸ rfl)
      omega
    exact ⟨.trailer 1, by simp [Capture.nextPosition, h0]⟩

/-- An accepted take of a word before trailer word 1 moves a drain with DxRQ high within the layout. -/
theorem Drain.advance_adjusts {x : Drain} {c : Capture} {p : Position} (hq : x.rq = .high) (hx : x.position = some p)
    (hp : p ≠ .trailer 1) : x.Adjusts (x.advance c p) := by
  refine ⟨rfl, rfl, fun h => .inl h, fun hr => ?_, fun p₀ hp₀ hl => ?_⟩
  · exact Bool.or_eq_true_iff.mpr (.inl (Drain.hasHead_of_high (x := x) hr hq))
  · obtain rfl : p = p₀ := Option.some.inj (hx.symm.trans hp₀)
    obtain ⟨p', hnext⟩ := Capture.nextPosition_of_ne (c := c) hl hp
    exact ⟨p', hnext, Position.nextPosition_inLayout hnext⟩

theorem Drain.restartTimer_adjusts {x : Drain} (hq : x.rq = .high) : x.Adjusts x.restartTimer := by
  refine ⟨rfl, rfl, fun h => .inl h, fun hr => ?_, fun p hp hl => ⟨p, hp, hl⟩⟩
  exact Bool.or_eq_true_iff.mpr (.inl (Drain.hasHead_of_high (x := x) hr hq))

/-! ### Runs of small effects -/

variable {D : Prop} {ph : Phase}

theorem Effects.quiet {s t : State} (h : s.SameStore t) : Effects D ph s t := (Effect.quiet h).run

theorem Effects.raise (s : State) (n : Notice) : Effects D ph s (s.raise n) := .quiet ⟨rfl, rfl, rfl, rfl⟩

theorem Effects.raiseInput (s : State) (e : InputEvent) : Effects D ph s (s.raiseInput e) := .raise _ _

theorem Effects.countError (s : State) (e : InputEvent) : Effects D ph s (s.countError e) := .quiet ⟨rfl, rfl, rfl, rfl⟩

theorem Effects.chargeLoss (s : State) (r : RegionId) (reason : LossReason) : Effects D ph s (s.chargeLoss r reason) :=
  .quiet ⟨rfl, rfl, rfl, rfl⟩

theorem Effects.setEntry (s : State) (r : RegionId) (e : ActiveEntry) : Effects D ph s (s.setEntry r e) := .quiet ⟨rfl, rfl, rfl, rfl⟩

theorem Effects.finish (s : State) (q : Request) (p : List Byte) : Effects D ph s (s.finish q p) := .quiet ⟨rfl, rfl, rfl, rfl⟩

theorem Effects.replayHead (s : State) : Effects D ph s s.replayHead := by
  rw [s.replayHead_frame]
  exact .quiet ⟨rfl, rfl, rfl, rfl⟩

theorem Effects.evaluateBurst (s : State) (d : DrainId) : Effects D ph s (s.evaluateBurst d) := by
  obtain ⟨y, hy, -, heq⟩ := s.evaluateBurst_adjusts d
  rw [heq]
  exact (Effect.adjust d y hy).run

theorem Effects.evaluateIfLow (s : State) (d : DrainId) : Effects D ph s (s.evaluateIfLow d) := by
  obtain ⟨y, hy, -, heq⟩ := s.evaluateIfLow_adjusts d
  rw [heq]
  exact (Effect.adjust d y hy).run

theorem Effects.cutToTrailer (s : State) (d : DrainId) : Effects D ph s (s.cutToTrailer d) := by
  obtain ⟨y, hy, heq⟩ := s.cutToTrailer_adjusts d
  rw [heq]
  exact (Effect.adjust d y hy).run

theorem Effects.applyCommit (s : State) : Effects D ph s s.applyCommit :=
  .quiet ⟨s.applyCommit_memory, s.applyCommit_captures, s.applyCommit_drainA, s.applyCommit_drainB⟩

theorem Effects.applyPending (s : State) : Effects D ph s s.applyPending := by
  unfold State.applyPending
  split
  · exact .applyCommit s
  · exact .refl

theorem Effects.enterStopped (s : State) : Effects D ph s s.enterStopped :=
  .quiet ⟨by simp, by simp, by simp, by simp⟩

/-! ### Abandonments, discards and completions as runs of effects -/

/-- A discard of a capture that waits. -/
theorem Effects.discard {s : State} {c : Capture} (hw : c.delivery = .waiting) (hc : D → c ∈ s.captures) :
    Effects D ph s (s.discard c) :=
  (Effect.free c hw hc).run.trans (.chargeLoss _ _ _)

/-- What an abandonment of a capture that waits does to the captures, the memory and the drains is a free. -/
theorem State.abandon_waiting (s : State) {c : Capture} (reason : LossReason) (hw : c.delivery = .waiting) :
    (s.freeCapture c).SameStore (s.abandon c reason) := by
  have hfilter : (s.captures.map (fun x => if x.slot = c.slot then { x with chain := [] } else x)).filter (fun x => x.slot ≠ c.slot) =
      s.captures.filter (fun x => x.slot ≠ c.slot) := by
    induction s.captures with
    | nil => rfl
    | cons x l ih => by_cases hx : x.slot = c.slot <;> simp_all
  unfold State.abandon
  rw [hw]
  exact ⟨by simp [State.freeCapture, State.returnBlocks, State.chargeLoss, State.raise], hfilter, rfl, rfl⟩

theorem Effects.abandon {s : State} {c : Capture} (reason : LossReason) (hc : D → s.openCapture c.region = some c) :
    Effects D ph s (s.abandon c reason) := by
  cases hd : c.delivery with
  | waiting =>
    exact (Effect.free c hd (fun h => (State.openCapture_eq_some (hc h)).1)).run.trans
      (.quiet (s.abandon_waiting reason hd))
  | active =>
    refine (Effect.mark c reason hd hc).run.trans ?_
    have hmarked : State.SameStore ((s.returnBlocks c.chain).updateCapture c.slot
          (fun x => { x with chain := [], fill := .abandoned, abandonReason := some reason }))
        ((((s.returnBlocks c.chain).updateCapture c.slot (fun x => { x with chain := [] })).chargeLoss c.region reason).updateCapture
          c.slot (fun x => { x with fill := .abandoned, abandonReason := some reason })) := by
      refine ⟨rfl, ?_, rfl, rfl⟩
      simp only [State.updateCapture_captures, State.chargeLoss_captures, List.map_map]
      exact List.map_congr_left (fun x _ => by by_cases hx : x.slot = c.slot <;> simp [hx])
    unfold State.abandon
    rw [hd]
    cases c.route with
    | link => exact .quiet hmarked
    | drain d => exact (Effects.quiet hmarked).trans (.cutToTrailer _ d)

theorem Effects.abandonOpen (s : State) (reason : LossReason) (r : RegionId) : Effects D ph s (s.abandonOpen reason r) := by
  unfold State.abandonOpen
  split
  · exact .refl
  · rename_i c hc
    obtain ⟨-, hregion, -⟩ := State.openCapture_eq_some hc
    exact .abandon reason (fun _ => hregion ▸ hc)

theorem Effects.abandonAll (s : State) (reason : LossReason) : Effects D ph s (s.abandonAll reason) :=
  s.abandonAll_keeps (Effects D ph s) reason (fun t r h => h.trans (.abandonOpen t reason r)) .refl

theorem Effects.enterSkipping (s : State) (reason : LossReason) (event : InputEvent) : Effects D ph s (s.enterSkipping reason event) := by
  have habandoned := Effects.abandonAll (D := D) (ph := ph) s reason
  unfold State.enterSkipping
  generalize s.abandonAll reason = u at habandoned ⊢
  exact habandoned.trans (.quiet ⟨rfl, rfl, rfl, rfl⟩)

/-- A run of discards of captures that wait. -/
theorem Effects.discardAll {cs : List Capture} {s : State} (hw : ∀ c ∈ cs, c.delivery = .waiting)
    (hc : D → (cs.map Capture.slot).Nodup ∧ ∀ c ∈ cs, c ∈ s.captures) : Effects D ph s (cs.foldl State.discard s) := by
  induction cs generalizing s with
  | nil => exact .refl
  | cons c rest ih =>
    refine (Effects.discard (hw c (by simp)) (fun h => (hc h).2 c (by simp))).trans (ih (fun x hx => hw x (by simp [hx])) fun h => ?_)
    obtain ⟨hnodup, hmem⟩ := hc h
    rw [List.map_cons, List.nodup_cons] at hnodup
    refine ⟨hnodup.2, fun x hx => List.mem_filter.mpr ⟨hmem x (by simp [hx]), ?_⟩⟩
    have hne : x.slot ≠ c.slot := fun heq => hnodup.1 (heq ▸ List.mem_map_of_mem hx)
    simpa using hne

theorem Effects.complete {s : State} {c : Capture} (hc : s.openCapture c.region = some c) (hb : c.bytesWritten = c.bytesExpected) :
    Effects D .writing s (s.complete c) := by
  refine (Effect.fill c hc hb).run.trans ?_
  have hannounce : ∀ t : State, Effects D .writing t (t.announceCompletion c) := by
    intro t
    unfold State.announceCompletion
    split
    · exact .raise _ _
    · split
      · exact .evaluateIfLow _ _
      · exact .refl
  have hcount : ∀ t : State, Effects D .writing t (t.finishCount c.region) := by
    intro t
    unfold State.finishCount
    split
    · exact (Effects.setEntry _ _ _).trans (.raise _ _)
    · exact .refl
  exact ((Effects.setEntry _ _ _).trans (hannounce _)).trans (hcount _)

theorem Effects.rowEndOf (s : State) (row : Nat) (r : RegionId) : Effects D .writing s (State.rowEndOf row s r) := by
  unfold State.rowEndOf
  split
  · exact .refl
  · rename_i c hc
    obtain ⟨-, hregion, -⟩ := State.openCapture_eq_some hc
    split
    · rename_i hcompletes
      refine .complete (hregion ▸ hc) ?_
      unfold State.rowCompletes at hcompletes
      split at hcompletes <;> simp_all
    · exact .refl

theorem Effects.rowEnd (s : State) (row : Nat) : Effects D .writing s (s.rowEnd row) :=
  s.rowEnd_keeps (Effects D .writing s) row (fun t r h => h.trans (.rowEndOf t row r)) .refl

/-! ### Records keep distinct numbers -/

/-- The record with the joined number, or the oldest before it, becomes ACTIVE on an IDLE drain. -/
theorem State.joinQueue_captures (s : State) (d : DrainId) (slot : Nat) :
    (s.joinQueue d slot).captures =
      s.captures.map (fun c => if (s.drain d).state = .idle ∧ some c.slot = ((s.drain d).queue ++ [slot]).head?
        then { c with delivery := .active } else c) := by
  unfold State.joinQueue
  by_cases hidle : (s.drain d).state = .idle
  · simp [hidle, State.promote_captures]
  · simp [hidle]

/-- What telling a drain of a write can do: the capture joins the queue at its first byte, or the drain is evaluated. -/
theorem State.tellDrainOfWrite_cases (s : State) (c : Capture) :
    (∃ d, c.route = .drain d ∧ c.bytesWritten = 0 ∧ s.tellDrainOfWrite c = s.joinQueue d c.slot) ∨
    ((c.route = .link ∨ c.bytesWritten ≠ 0) ∧ ∃ d y, (s.drain d).Adjusts y ∧ s.tellDrainOfWrite c = s.setDrain d y) := by
  have same : ∀ d, ∃ d y, (s.drain d).Adjusts y ∧ s = s.setDrain d y :=
    fun d => ⟨d, s.drain d, .refl _, (s.setDrain_drain d).symm⟩
  unfold State.tellDrainOfWrite
  cases hr : c.route with
  | link => exact .inr ⟨.inl rfl, same .a⟩
  | drain d =>
    by_cases hb : c.bytesWritten = 0
    · exact .inl ⟨d, rfl, hb, if_pos hb⟩
    · refine .inr ⟨.inr hb, ?_⟩
      simp only [hb, if_false]
      split
      · obtain ⟨y, hy, -, heq⟩ := s.evaluateIfLow_adjusts d
        exact ⟨d, y, hy, heq⟩
      · exact same d

theorem State.tellDrainOfWrite_slots (s : State) (c : Capture) :
    (s.tellDrainOfWrite c).captures.map Capture.slot = s.captures.map Capture.slot := by
  rcases s.tellDrainOfWrite_cases c with ⟨d, -, -, heq⟩ | ⟨-, d, y, -, heq⟩ <;> rw [heq]
  · rw [State.joinQueue_captures, List.map_map]
    exact List.map_congr_left (fun x _ => by dsimp only [Function.comp_apply]; split_ifs <;> rfl)
  · rw [State.setDrain_captures]

theorem State.promote_slots (s : State) (d : DrainId) : (s.promote d).captures.map Capture.slot = s.captures.map Capture.slot := by
  rw [State.promote_captures, List.map_map]
  exact List.map_congr_left (fun x _ => by dsimp only [Function.comp_apply]; split_ifs <;> rfl)

theorem State.moveOn_slots (s : State) (d : DrainId) : (s.moveOn d).captures.map Capture.slot = s.captures.map Capture.slot := by
  unfold State.moveOn
  split
  · rw [State.setDrain_captures]
  · split
    · rw [State.setDrain_captures]
    · exact s.promote_slots d

theorem State.sendDataWord_slots (s : State) (c : Capture) (k : Nat) :
    (s.sendDataWord c k).captures.map Capture.slot = s.captures.map Capture.slot := by
  unfold State.sendDataWord
  dsimp only
  split
  · rw [State.updateCapture_slots, State.returnBlocks_captures, State.updateCapture_slots] <;> exact fun _ => rfl
  · rw [State.updateCapture_slots]; exact fun _ => rfl

theorem State.grantBlock_slots (s : State) (slot : Nat) : (s.grantBlock slot).captures.map Capture.slot = s.captures.map Capture.slot := by
  unfold State.grantBlock
  split
  · rfl
  · exact State.updateCapture_slots _ _ (fun _ => rfl)

theorem State.storePixel_slots (s : State) (c : Capture) (v : Half) :
    (s.storePixel c v).captures.map Capture.slot = s.captures.map Capture.slot :=
  State.updateCapture_slots _ _ (fun _ => rfl)

theorem State.endHead_captures (s : State) (d : DrainId) (reason : LossReason) (st : DrainState) :
    (s.endHead d reason st).captures =
      match s.head d with
      | none => s.captures
      | some c => s.captures.filter (fun x => x.slot ≠ c.slot) := by
  unfold State.endHead
  cases s.head d with
  | none => simp
  | some c => by_cases hf : c.fill = .abandoned <;> simp [hf]

theorem filter_slots_sublist (l : List Capture) (p : Capture → Bool) :
    ((l.filter p).map Capture.slot).Sublist (l.map Capture.slot) := l.filter_sublist.map _

/-- Only an open adds a record. -/
theorem Effect.slots_cases {s t : State} (h : Effect D ph s t) :
    (t.captures.map Capture.slot).Sublist (s.captures.map Capture.slot) ∨
    (ph = .opening ∧ ∃ slot ∈ s.freeRecords, t.captures.map Capture.slot = s.captures.map Capture.slot ++ [slot]) := by
  have same : ∀ {l l' : List Nat} {P : Prop}, l = l' → l.Sublist l' ∨ P := fun heq => .inl (heq ▸ .refl _)
  cases h with
  | opens slot r seq d hslot => exact .inr ⟨rfl, slot, hslot, by simp [openedCapture]⟩
  | quiet h => exact .inl (by rw [h.captures])
  | astray hD hm hA hB hc => exact .inl hc
  | adjust d y h => exact .inl (by rw [State.setDrain_captures])
  | free c hw hc => exact .inl (filter_slots_sublist _ _)
  | mark c reason ha hc => exact same (map_slot_update _ _ fun _ => rfl)
  | fill c hc hb => exact same (map_slot_update _ _ fun _ => rfl)
  | fetch c hc hl hw => exact same (map_slot_update _ _ fun _ => rfl)
  | promote d h => exact same (s.promote_slots d)
  | endHead d reason st h hst =>
    rw [State.endHead_captures]
    split
    · exact .inl (.refl _)
    · exact .inl (filter_slots_sublist _ _)
  | send d c k hc => exact same (s.sendDataWord_slots c k)
  | lastTake d c hc hq => rw [State.moveOn_slots]; exact .inl (filter_slots_sublist _ _)
  | write v hc hu hc' =>
    rw [State.tellDrainOfWrite_slots, State.storePixel_slots]
    rcases hu with ⟨-, rfl⟩ | ⟨-, -, rfl⟩
    · exact .inl (.refl _)
    · exact same (s.grantBlock_slots _)
  | release c hc hl ha => exact .inl (filter_slots_sublist _ _)
  | returned hm hc hA hB =>
    rw [hc, List.map_map]
    refine same (List.map_congr_left fun c _ => ?_)
    simp only [Function.comp_apply, Capture.returned]
    split <;> rfl
  | reset cause => exact .inl (List.nil_sublist _)

theorem State.mem_freeRecords {s : State} {n : Nat} : n ∈ s.freeRecords ↔ n < Config.records ∧ ∀ c ∈ s.captures, c.slot ≠ n := by
  simp [State.freeRecords]

/-- Every effect keeps the records' numbers distinct. -/
theorem Effect.keeps_recordsDistinct {s t : State} (h : Effect D ph s t) (hs : s.RecordsDistinct) : t.RecordsDistinct := by
  obtain ⟨hnodup, hlt⟩ := hs
  have hlt' : ∀ n ∈ s.captures.map Capture.slot, n < Config.records := by simpa using hlt
  rw [State.RecordsDistinct]
  rcases h.slots_cases with hsub | ⟨-, slot, hslot, heq⟩
  · exact ⟨hnodup.sublist hsub, fun c hc => hlt' _ (hsub.subset (List.mem_map_of_mem hc))⟩
  · obtain ⟨hbound, hfresh⟩ := State.mem_freeRecords.mp hslot
    have hnew : slot ∉ s.captures.map Capture.slot := by simpa using hfresh
    refine ⟨?_, fun c hc => ?_⟩
    · rw [heq, List.nodup_append']
      exact ⟨hnodup, List.nodup_singleton _, List.disjoint_singleton.mpr hnew⟩
    · have hmem := List.mem_map_of_mem (f := Capture.slot) hc
      rw [heq, List.mem_append, List.mem_singleton] at hmem
      exact hmem.elim (hlt' _) (fun hc => hc ▸ hbound)

theorem Effects.keeps_recordsDistinct {s t : State} (h : Effects D ph s t) (hs : s.RecordsDistinct) : t.RecordsDistinct :=
  h.keeps (fun h => h.keeps_recordsDistinct) hs

/-! ### Block requests and room for an open as runs of discards -/

/-- A block request discards its first `k` candidates, each after a refusal, and ends with a grant or, past the last, without one (R76). -/
theorem State.requestBlock_spec (s : State) (r : RegionId) (slot : Nat) (cs : List Capture) :
    ∃ k, k ≤ cs.length ∧ (∀ j, j < k → ((cs.take j).foldl State.discard s).grantable r = false) ∧
      ((((cs.take k).foldl State.discard s).grantable r = true ∧
          State.requestBlock r slot cs s = (((cs.take k).foldl State.discard s).grantBlock slot, true)) ∨
       (((cs.take k).foldl State.discard s).grantable r = false ∧ k = cs.length ∧
          State.requestBlock r slot cs s = ((cs.take k).foldl State.discard s, false))) := by
  induction cs generalizing s with
  | nil =>
    refine ⟨0, Nat.le_refl 0, fun j hj => absurd hj (Nat.not_lt_zero j), ?_⟩
    cases hg : s.grantable r <;> simp [State.requestBlock, hg]
  | cons c rest ih =>
    cases hg : s.grantable r with
    | true => exact ⟨0, Nat.zero_le _, fun j hj => absurd hj (Nat.not_lt_zero j), .inl ⟨hg, by simp [State.requestBlock, hg]⟩⟩
    | false =>
      obtain ⟨k, hk, hbefore, hend⟩ := ih (s.discard c)
      have hstep : State.requestBlock r slot (c :: rest) s = State.requestBlock r slot rest (s.discard c) := by
        simp [State.requestBlock, hg]
      refine ⟨k + 1, Nat.succ_le_succ hk, fun j hj => ?_, ?_⟩
      · cases j with
        | zero => exact hg
        | succ j => exact hbefore j (Nat.lt_of_succ_lt_succ hj)
      · simpa [hstep] using hend

/-- Making room discards the first `k` candidates, each while the region is at its depth, and stops below it or past the last (R48). -/
theorem State.makeRoom_spec (s : State) (r : RegionId) (depth : Nat) (cs : List Capture) :
    ∃ k, k ≤ cs.length ∧ (∀ j, j < k → depth ≤ ((cs.take j).foldl State.discard s).completeCount r) ∧
      (((cs.take k).foldl State.discard s).completeCount r < depth ∨ k = cs.length) ∧
      State.makeRoom r depth cs s = (cs.take k).foldl State.discard s := by
  induction cs generalizing s with
  | nil => exact ⟨0, Nat.le_refl 0, fun j hj => absurd hj (Nat.not_lt_zero j), .inr rfl, rfl⟩
  | cons c rest ih =>
    by_cases hroom : s.completeCount r < depth
    · exact ⟨0, Nat.zero_le _, fun j hj => absurd hj (Nat.not_lt_zero j), .inl hroom, by simp [State.makeRoom, hroom]⟩
    · obtain ⟨k, hk, hbefore, hend, heq⟩ := ih (s.discard c)
      refine ⟨k + 1, Nat.succ_le_succ hk, fun j hj => ?_, hend.imp id (congrArg (· + 1)), by simpa [State.makeRoom, hroom] using heq⟩
      cases j with
      | zero => exact Nat.not_lt.mp hroom
      | succ j => exact hbefore j (Nat.lt_of_succ_lt_succ hj)

/-- The COMPLETE/WAITING captures of a region are a part of the records, in their order. -/
theorem State.candidates_eq (s : State) (r : RegionId) :
    s.candidates r = s.captures.filter (fun c => c.region = r && c.isWaiting) := by
  simp [State.candidates, State.captureList, List.filter_filter, Bool.and_comm]

theorem State.mem_candidates {s : State} {r : RegionId} {c : Capture} :
    c ∈ s.candidates r ↔ c ∈ s.captures ∧ c.region = r ∧ c.fill = .complete ∧ c.delivery = .waiting := by
  simp [State.candidates_eq, Capture.isWaiting]

/-- A run of discards of candidates. -/
theorem Effects.discardCandidates {s : State} {r : RegionId} {cs : List Capture} (hD : D → s.RecordsDistinct)
    (hcs : cs.Sublist (s.candidates r)) : Effects D ph s (cs.foldl State.discard s) := by
  have hmem : ∀ c ∈ cs, c ∈ s.captures ∧ c.region = r ∧ c.fill = .complete ∧ c.delivery = .waiting :=
    fun c hc => State.mem_candidates.mp (hcs.subset hc)
  refine .discardAll (fun c hc => (hmem c hc).2.2.2) fun h => ⟨(hD h).1.sublist (List.Sublist.map _ ?_), fun c hc => (hmem c hc).1⟩
  rw [State.candidates_eq] at hcs
  exact hcs.trans List.filter_sublist

theorem State.discardable_sublist (s : State) (r : RegionId) : (s.discardable r).Sublist (s.candidates r) := by
  unfold State.discardable
  split
  · split
    · exact .refl _
    · exact List.nil_sublist _
  · exact List.nil_sublist _

theorem find?_filter_of_pos {α : Type} {p q : α → Bool} {l : List α} {a : α} (h : l.find? p = some a) (hq : q a = true) :
    (l.filter q).find? p = some a := by
  induction l with
  | nil => exact h
  | cons x l ih =>
    by_cases hp : p x = true
    · obtain rfl : x = a := by simpa [hp] using h
      simp [hq, hp]
    · rw [List.find?_cons_of_neg hp] at h
      by_cases hx : q x = true <;> simp [hx, hp, ih h]

/-- Discards of other records leave the open capture of a region. -/
theorem State.openCapture_discardAll {cs : List Capture} {s : State} {r : RegionId} {c : Capture} (hc : s.openCapture r = some c)
    (hne : ∀ x ∈ cs, x.slot ≠ c.slot) : (cs.foldl State.discard s).openCapture r = some c := by
  induction cs generalizing s with
  | nil => exact hc
  | cons x rest ih =>
    refine ih ?_ (fun y hy => hne y (by simp [hy]))
    rw [State.openCapture_eq] at hc ⊢
    exact find?_filter_of_pos hc (by simpa using Ne.symm (hne x (by simp)))

/-- The open capture is none of the captures that a block request gives up. -/
theorem State.RecordsDistinct.openCapture_ne_candidate {s : State} (hs : s.RecordsDistinct) {r r' : RegionId} {c x : Capture}
    (hc : s.openCapture r = some c) (hx : x ∈ s.candidates r') : x.slot ≠ c.slot := by
  intro heq
  obtain ⟨hmem, -, hfill⟩ := State.openCapture_eq_some hc
  obtain ⟨hxmem, -, hxfill, -⟩ := State.mem_candidates.mp hx
  rw [hs.eq_of_slot hmem hxmem heq, hfill] at hxfill
  cases hxfill

theorem State.freePool_ne_nil_of_grantable {s : State} {r : RegionId} (h : s.grantable r = true) : s.memory.freePool ≠ [] := by
  intro hnil
  simp [State.grantable, State.freeCount, hnil] at h

theorem State.openCapture_updateCapture (s : State) {r : RegionId} {c : Capture} {f : Capture → Capture}
    (hf : ∀ x, (f x).region = x.region ∧ (f x).fill = x.fill) (hc : s.openCapture r = some c) :
    (s.updateCapture c.slot f).openCapture r = some (f c) := by
  rw [State.openCapture_eq] at hc ⊢
  rw [State.updateCapture_captures, List.find?_map]
  have hsame : (fun x : Capture => x.region = r && x.fill = .filling) ∘ (fun x => if x.slot = c.slot then f x else x) =
      fun x => x.region = r && x.fill = .filling := by
    funext x
    by_cases hx : x.slot = c.slot <;> simp [hx, hf]
  rw [hsame, hc]
  simp

theorem State.grantBlock_cells (s : State) (slot : Nat) : (s.grantBlock slot).memory.cells = s.memory.cells := by
  rw [s.grantBlock_frame]

theorem State.openCapture_grantBlock {s : State} {r : RegionId} {c : Capture} (hpool : s.memory.freePool ≠ [])
    (hc : s.openCapture r = some c) :
    ∃ b rest, s.memory.freePool = b :: rest ∧ (s.grantBlock c.slot).openCapture r = some { c with chain := c.chain ++ [b] } := by
  obtain ⟨b, rest, hfree⟩ := List.exists_cons_of_ne_nil hpool
  refine ⟨b, rest, hfree, ?_⟩
  unfold State.grantBlock
  rw [hfree]
  exact State.openCapture_updateCapture _ (fun _ => ⟨rfl, rfl⟩) hc

theorem State.grantBlock_capture {s : State} {r : RegionId} {c : Capture} (hs : s.RecordsDistinct) (hpool : s.memory.freePool ≠ [])
    (hc : s.openCapture r = some c) :
    ∃ b rest, s.memory.freePool = b :: rest ∧ (s.grantBlock c.slot).capture c.slot = some { c with chain := c.chain ++ [b] } := by
  obtain ⟨b, rest, hfree, hopen⟩ := State.openCapture_grantBlock hpool hc
  have hs' : (s.grantBlock c.slot).RecordsDistinct := by
    have hslots := s.grantBlock_slots c.slot
    refine ⟨hslots ▸ hs.1, fun x hx => ?_⟩
    obtain ⟨y, hy, heq⟩ := List.mem_map.mp (hslots ▸ List.mem_map_of_mem (f := Capture.slot) hx)
    exact heq ▸ hs.2 y hy
  exact ⟨b, rest, hfree, hs'.capture_eq (State.openCapture_eq_some hopen).1⟩

/-- A pixel that its region samples is written, after the discards that its block request needs, or its capture is abandoned. -/
theorem Effects.writePixel {s : State} (hD : D → s.RecordsDistinct) (r : RegionId) (v : Half) :
    Effects D .writing s (s.writePixel r v) := by
  unfold State.writePixel
  split
  · exact .refl
  rename_i c hc
  obtain ⟨hmem, rfl, -⟩ := State.openCapture_eq_some hc
  dsimp only
  split
  · rename_i hboundary
    obtain ⟨k, -, -, hend⟩ := s.requestBlock_spec c.region c.slot (s.discardable c.region)
    have hsub : ((s.discardable c.region).take k).Sublist (s.candidates c.region) :=
      (List.take_sublist _ _).trans (s.discardable_sublist _)
    have hrun : Effects D .writing s (((s.discardable c.region).take k).foldl State.discard s) := .discardCandidates hD hsub
    have hopen : D → (((s.discardable c.region).take k).foldl State.discard s).openCapture c.region = some c :=
      fun h => State.openCapture_discardAll hc fun x hx => (hD h).openCapture_ne_candidate hc (hsub.subset hx)
    generalize ((s.discardable c.region).take k).foldl State.discard s = u at hend hrun hopen
    refine hrun.trans ?_
    rcases hend with ⟨hgrant, heq⟩ | ⟨-, -, heq⟩
    · have hpool := State.freePool_ne_nil_of_grantable hgrant
      simp only [heq, if_true]
      split
      · rename_i c' hc'
        exact (Effect.write v hopen (.inr ⟨hboundary, hpool, rfl⟩) (fun _ => hc')).run
      · rename_i hnone
        refine (Effect.astray (fun h => ?_) (u.grantBlock_cells _) (by simp) (by simp) (by rw [State.grantBlock_slots])).run
        obtain ⟨b, rest, -, hsome⟩ := State.grantBlock_capture (hrun.keeps_recordsDistinct (hD h)) hpool (hopen h)
        rw [hnone] at hsome
        cases hsome
    · simp only [heq]
      exact .abandon .noBlocks hopen
  · rename_i hinside
    exact (Effect.write v (fun _ => hc) (.inl ⟨hinside, rfl⟩) (fun h => (hD h).capture_eq hmem)).run

theorem Effects.serveRegion {s : State} (hD : D → s.RecordsDistinct) (x y : Nat) (v : Half) (r : RegionId) :
    Effects D .writing s (State.serveRegion x y v s r) := by
  unfold State.serveRegion
  split
  · exact .writePixel hD r v
  · exact .refl

theorem Effects.serveAll {s : State} (hD : D → s.RecordsDistinct) (x y : Nat) (v : Half) (l : List RegionId) :
    Effects D .writing s (l.foldl (State.serveRegion x y v) s) :=
  foldl_keeps_prop (Effects D .writing s) _
    (fun _ r h => h.trans (.serveRegion (fun hd => h.keeps_recordsDistinct (hD hd)) x y v r)) l s .refl

theorem Effects.serveRegions {s : State} (hD : D → s.RecordsDistinct) (x y : Nat) (v : Half) (asked : Bool) (l : List RegionId) :
    Effects D .writing s (State.serveRegions x y v asked l s) := by
  obtain ⟨k, -, heq⟩ := State.serveRegions_split x y v asked l s
  rw [heq]
  exact (Effects.serveAll hD x y v _).trans (.quiet ⟨rfl, rfl, rfl, rfl⟩)

theorem Effects.servePixel {s : State} (hD : D → s.RecordsDistinct) : Effects D .writing s s.servePixel := by
  unfold State.servePixel
  split
  · exact .refl
  · exact .serveRegions hD _ _ _ _ _

theorem Effects.finishPixel {s : State} (hD : D → s.RecordsDistinct) : Effects D .writing s s.finishPixel := by
  unfold State.finishPixel
  split
  · exact .refl
  · exact (Effects.serveAll hD _ _ _ _).trans (.quiet ⟨rfl, rfl, rfl, rfl⟩)

/-! ### A frame start as a run of effects -/

theorem Effects.openRecord (s : State) (r : RegionId) (d : RegionDef) (seq : Half) : Effects D .opening s (s.openRecord r d seq) := by
  unfold State.openRecord
  split
  · exact .chargeLoss _ _ _
  · rename_i slot rest hfree
    exact (Effect.opens slot r seq d (by simp [hfree])).run

theorem Effects.openDue {s : State} (hD : D → s.RecordsDistinct) (r : RegionId) (d : RegionDef) : Effects D .opening s (s.openDue r d) := by
  have hroom : ∀ n : State, n.captures = s.captures →
      Effects D .opening n (if d.policy = .keepNew then State.makeRoom r d.depth (n.candidates r) n else n) := by
    intro n hn
    split
    · obtain ⟨k, -, -, -, heq⟩ := n.makeRoom_spec r d.depth (n.candidates r)
      rw [heq]
      refine .discardCandidates (fun h => ?_) (List.take_sublist _ _)
      rw [State.RecordsDistinct, hn]
      exact hD h
    · exact .refl
  have hopen : ∀ (u : State) (seq : Half),
      Effects D .opening u (if u.completeCount r < d.depth then u.openRecord r d seq else u.chargeLoss r .depth) := by
    intro u seq
    split
    · exact .openRecord _ _ _ _
    · exact .chargeLoss _ _ _
  unfold State.openDue
  exact ((Effects.setEntry s r _).trans (hroom _ (State.setEntry_captures _ _ _))).trans (hopen _ _)

theorem Effects.evaluateRegion {s : State} (hD : D → s.RecordsDistinct) (r : RegionId) : Effects D .opening s (s.evaluateRegion r) := by
  unfold State.evaluateRegion
  dsimp only
  split
  · exact .refl
  · split
    · split
      · split
        · exact (Effects.setEntry _ _ _).trans (.openDue (by simpa [State.RecordsDistinct] using hD) _ _)
        · exact .setEntry _ _ _
      · exact .setEntry _ _ _
    · exact .refl

theorem Effects.evaluateDue {s : State} (hD : D → s.RecordsDistinct) : Effects D .opening s s.evaluateDue :=
  s.evaluateDue_keeps (Effects D .opening s)
    (fun _ r h => h.trans (.evaluateRegion (fun hd => h.keeps_recordsDistinct (hD hd)) r)) .refl

/-! ### Drain commands as runs of effects -/

theorem Drain.hasHead_eq_true_iff {x : Drain} : x.hasHead = true ↔ x.state = .streaming ∨ x.state = .stopping := by
  simp [Drain.hasHead]

/-- A drain that has no head before or after, and keeps its queue, its place at rest and its position, is only set anew. -/
theorem Drain.adjusts_of_settings {x y : Drain} (hq : y.queue = x.queue) (hh : y.hasHead = x.hasHead)
    (hi : y.state = .idle → x.state = .idle ∨ x.queue = []) (hrq : y.rq = x.rq) (hb : y.burst = x.burst) (ht : y.timer = x.timer)
    (hp : y.position = x.position) : x.Adjusts y := by
  refine ⟨hq, hh, hi, fun h => ?_, fun p hp' hl => ⟨p, hp.trans hp', hl⟩⟩
  rw [Drain.restful_iff] at h ⊢
  rwa [hh, hrq, hb, ht, hp]

theorem Effects.enableDrain {s t : State} {d : DrainId} {p : List Byte} (h : s.enableDrain d p = some t) : Effects D ph s t := by
  unfold State.enableDrain at h
  dsimp only at h
  have hset : ∀ st : DrainState, (s.drain d).Adjusts { s.drain d with grain := nat1 p 2, timeout := nat1 p 3 } :=
    fun _ => Drain.adjusts_of_settings rfl rfl .inl rfl rfl rfl rfl
  have hfresh : (s.drain d).hasHead = false → (match (s.drain d).queue with
      | [] => some (s.setDrain d { s.drain d with grain := nat1 p 2, timeout := nat1 p 3, state := .idle })
      | _ :: _ => some ((s.setDrain d { s.drain d with grain := nat1 p 2, timeout := nat1 p 3 }).promote d)) = some t →
      Effects D ph s t := by
    intro hhead h
    split at h <;> cases h
    · rename_i hq
      exact (Effect.adjust d { s.drain d with grain := nat1 p 2, timeout := nat1 p 3, state := .idle }
        (Drain.adjusts_of_settings rfl hhead.symm (fun _ => .inr hq) rfl rfl rfl rfl)).run
    · exact (Effect.adjust d _ (hset .idle)).run.trans (Effect.promote d (by rw [State.drain_setDrain]; exact hhead)).run
  split at h
  · rename_i hst; exact hfresh (by simp [Drain.hasHead, hst]) h
  · rename_i hst; exact hfresh (by simp [Drain.hasHead, hst]) h
  · cases h; exact (Effect.adjust d _ (hset .idle)).run
  · cases h
  · cases h

theorem Effects.disableDrain {s t : State} {d : DrainId} {p : List Byte} (h : s.disableDrain d p = some t) : Effects D ph s t := by
  have hset : ∀ st : DrainState, st ≠ .idle → Drain.hasHead { s.drain d with state := st } = (s.drain d).hasHead →
      Effects D ph s (s.setDrain d { s.drain d with state := st }) :=
    fun st hidle hh => (Effect.adjust d { s.drain d with state := st }
      (Drain.adjusts_of_settings rfl hh (fun h => absurd h hidle) rfl rfl rfl rfl)).run
  unfold State.disableDrain at h
  split at h <;> cases h
  · rename_i hst; exact hset _ (by simp) (by simp [Drain.hasHead, hst])
  · rename_i hst; exact hset _ (by simp) (by simp [Drain.hasHead, hst])
  · rename_i hst; exact hset _ (by simp) (by simp [Drain.hasHead, hst])
  · exact .refl
  · exact .refl

theorem Effects.abortDrain {s t : State} {d : DrainId} {p : List Byte} (h : s.abortDrain d p = some t) : Effects D ph s t := by
  unfold State.abortDrain at h
  split at h <;> cases h
  · rename_i hst; exact (Effect.endHead d _ _ (by simp [Drain.hasHead, hst]) (.inl rfl)).run
  · rename_i hst; exact (Effect.endHead d _ _ (by simp [Drain.hasHead, hst]) (.inl rfl)).run
  · rename_i hst; exact .disableDrain (d := d) (p := p) (by simp [State.disableDrain, hst])
  · rename_i hst; exact .disableDrain (d := d) (p := p) (by simp [State.disableDrain, hst])
  · exact .refl

theorem Effects.setDrainWith {effect : State → DrainId → List Byte → Option State}
    (heffect : ∀ {s t : State} {d : DrainId} {p : List Byte}, effect s d p = some t → Effects D ph s t) (s : State) (p : List Byte) :
    Effects D ph s (s.setDrainWith effect p).1 := by
  unfold State.setDrainWith
  split
  · exact .refl
  · exact .refl
  · split
    · exact .refl
    · rename_i h; exact heffect h

theorem Effects.strayTake (s : State) (d : DrainId) : Effects D ph s (s.strayTake d) :=
  (Effect.adjust d { s.drain d with stray := satInc (s.drain d).stray } (Drain.adjusts_of_settings rfl rfl .inl rfl rfl rfl rfl)).run

theorem State.sendDataWord_drain (s : State) (c : Capture) (k : Nat) (d : DrainId) : (s.sendDataWord c k).drain d = s.drain d := by
  unfold State.sendDataWord
  dsimp only
  split <;> cases d <;> rfl

/-- An accepted take of a word before trailer word 1: the word is sent, the drain moves on, and a burst at its end is evaluated. -/
theorem State.acceptTake_of_ne (s : State) (d : DrainId) (c : Capture) {p : Position} (hp : p ≠ .trailer 1) :
    s.acceptTake d c p =
      let sent := match p with | .data k => s.sendDataWord c k | _ => s
      let moved := sent.setDrain d ((s.drain d).advance c p)
      if ((s.drain d).advance c p).burst = 0 then moved.evaluateBurst d else moved := by
  unfold State.acceptTake
  split
  · exact absurd rfl hp
  · cases p <;> simp [State.sendDataWord_drain]

theorem Effects.acceptTake {s : State} {d : DrainId} {c : Capture} {p : Position} (hq : (s.drain d).rq = .high) (hc : s.head d = some c)
    (hp : (s.drain d).position = some p) : Effects D ph s (s.acceptTake d c p) := by
  by_cases hlast : p = .trailer 1
  · subst hlast
    have hhead : (s.setDrain d (s.drain d).restartTimer).head d = some c := by
      rw [← hc]
      simp [State.head, State.capture, Drain.restartTimer]
    exact (Effect.adjust d _ (Drain.restartTimer_adjusts hq)).run.trans
      (Effect.lastTake d c hhead (by rw [State.drain_setDrain]; exact hq)).run
  · have hadvance : ∀ t : State, t.drain d = s.drain d → Effects D ph t (t.setDrain d ((s.drain d).advance c p)) :=
      fun t ht => ht ▸ (Effect.adjust d _ (Drain.advance_adjusts (ht ▸ hq) (ht ▸ hp) hlast)).run
    have hend : ∀ (u : State) (n : Nat), Effects D ph u (if n = 0 then u.evaluateBurst d else u) := by
      intro u n
      split
      · exact .evaluateBurst _ _
      · exact .refl
    rw [s.acceptTake_of_ne d c hlast]
    cases p with
    | data k => exact ((Effect.send d c k hc).run.trans (hadvance _ (s.sendDataWord_drain c k d))).trans (hend _ _)
    | header i => exact (hadvance s rfl).trans (hend _ _)
    | trailer j => exact (hadvance s rfl).trans (hend _ _)

/-! ### Every command as a run of effects -/

theorem Effects.endHead {s : State} {d : DrainId} (reason : LossReason) (h : (s.drain d).hasHead = true) :
    Effects D ph s (s.endHead d reason .fault) := (Effect.endHead d reason .fault h (.inr rfl)).run

theorem Effects.haltRegion (s : State) (p : List Byte) : Effects D ph s (s.haltRegion p).1 := by
  unfold State.haltRegion
  split
  · exact .refl
  · split
    · exact (Effects.setEntry _ _ _).trans (.abandonOpen _ _ _)
    · exact .refl

theorem Effects.flush {s : State} (hD : D → s.RecordsDistinct) (p : List Byte) : Effects D ph s (s.flush p).1 := by
  unfold State.flush
  split
  · exact .refl
  · exact .discardCandidates hD (.refl _)

theorem Effects.fetch (s : State) (p : List Byte) : Effects D ph s (s.fetch p).1 := by
  unfold State.fetch
  split
  · exact .refl
  split
  · exact .refl
  split
  · exact .refl
  split
  · exact .refl
  rename_i c rest hfetchable
  have hc : c ∈ s.fetchable _ := hfetchable ▸ List.mem_cons_self
  rw [State.fetchable, List.mem_filter, State.mem_candidates] at hc
  obtain ⟨⟨hmem, -, hfill, hwaiting⟩, hlink⟩ := hc
  exact (Effect.fetch c hmem (by simpa using hlink) (by simp [Capture.isWaiting, hfill, hwaiting])).run

theorem Effects.stopNow (s : State) : Effects D ph s s.stopNow := by
  unfold State.stopNow
  split
  · exact .refl
  · exact .enterStopped _
  · exact .enterStopped _
  · exact (Effects.abandonAll _ _).trans (.enterStopped _)

theorem Effects.stopAtFrameEnd (s : State) : Effects D ph s s.stopAtFrameEnd := by
  unfold State.stopAtFrameEnd
  split
  · exact .refl
  · exact .enterStopped _
  · exact .quiet ⟨rfl, rfl, rfl, rfl⟩
  · exact .quiet ⟨rfl, rfl, rfl, rfl⟩

theorem Effects.takeLineStart (s : State) : Effects D ph s s.takeLineStart := by
  unfold State.takeLineStart
  split
  · split
    · exact .quiet ⟨rfl, rfl, rfl, rfl⟩
    · exact (Effects.countError _ _).trans (.enterSkipping _ _ _)
  · split
    · exact (Effects.countError _ _).trans (.raiseInput _ _)
    · exact .refl
  · exact .refl
  · exact .refl

theorem Effects.takeLineEnd (s : State) : Effects D .writing s s.takeLineEnd := by
  have hrow := Effects.rowEnd (D := D) s s.framer.linesDone
  unfold State.takeLineEnd
  generalize s.rowEnd s.framer.linesDone = u at hrow ⊢
  split
  · split
    · exact (Effects.countError _ _).trans (.enterSkipping _ _ _)
    · exact hrow.trans (.quiet ⟨rfl, rfl, rfl, rfl⟩)
  · exact .refl
  · exact .refl
  · exact .refl

theorem Effects.leaveFrame (s : State) : Effects D ph s s.leaveFrame := by
  unfold State.leaveFrame
  split
  · exact .enterStopped _
  · exact .quiet ⟨rfl, rfl, rfl, rfl⟩

theorem Effects.takeFrameEnd (s : State) : Effects D ph s s.takeFrameEnd := by
  have hcut := Effects.abandonAll (D := D) (ph := ph) (s.countError .frameShort) .shortFrame
  unfold State.takeFrameEnd
  generalize (s.countError .frameShort).abandonAll .shortFrame = u at hcut ⊢
  split
  · split
    · exact (((Effects.countError _ _).trans hcut).trans (.raiseInput _ _)).trans (.leaveFrame _)
    · exact .leaveFrame _
  · exact .leaveFrame _
  · exact .refl
  · exact .refl

theorem Effects.extractPixel {s : State} (hD : D → s.RecordsDistinct) (x y : Nat) (v : Half) :
    Effects D .writing s (s.extractPixel x y v) := .serveRegions hD x y v false allRegions

theorem Effects.setFramer (s : State) (f : Framer) : Effects D ph s { s with framer := f } := .quiet ⟨rfl, rfl, rfl, rfl⟩

theorem Effects.takePixel {s : State} (hD : D → s.RecordsDistinct) (pd : PixelLines) : Effects D .writing s (s.takePixel pd) := by
  unfold State.takePixel
  split
  · dsimp only
    split
    · exact (Effects.setFramer s _).trans (.extractPixel (by exact hD) _ _ _)
    · exact (Effects.setFramer s _).trans ((Effects.countError _ _).trans (.enterSkipping _ _ _))
  · exact .refl
  · exact .refl
  · exact .refl

theorem Effects.takeFrameStart {s : State} (hD : D → s.RecordsDistinct) : Effects D .opening s s.takeFrameStart := by
  unfold State.takeFrameStart
  split
  · exact (Effects.setFramer s _).trans ((Effects.applyPending _).trans (.evaluateDue (by simpa [State.RecordsDistinct] using hD)))
  · exact .refl
  · exact .refl
  · exact .refl

/-- The execution of a request, from what the owning block does. -/
theorem Effects.serve {s : State} (k : ReqKind) (form : List Byte → Bool) {body : State → List Byte → State × List Byte}
    (hbody : ∀ p, Effects D ph s (body s p).1) : Effects D ph s (s.serve k form body) :=
  s.serve_keeps (Effects D ph s) k form body .refl (.replayHead s) (fun t q p h => h.trans (.finish t q p)) hbody

theorem Effects.setLink (s : State) (l : Link) : Effects D ph s (s.setLink l) := .quiet ⟨rfl, rfl, rfl, rfl⟩

theorem Effects.setLv (s : State) (v : Level) : Effects D ph s (s.setLv v) := .quiet ⟨rfl, rfl, rfl, rfl⟩

theorem Effects.setFv (s : State) (v : Level) : Effects D ph s (s.setFv v) := .quiet ⟨rfl, rfl, rfl, rfl⟩

theorem Effects.serveReset (s : State) : Effects D ph s s.serveReset := by
  unfold State.serveReset
  split
  · exact .refl
  split
  · split
    · split
      · exact .replayHead s
      · split
        · exact .finish _ _ _
        · exact (Effects.finish _ _ _).trans (.setLink _ _)
    · exact .refl
  · exact .refl

theorem Effects.serveUnknown (s : State) : Effects D ph s s.serveUnknown := by
  unfold State.serveUnknown
  split
  · exact .refl
  split
  · exact .refl
  split
  · split
    · exact .replayHead s
    · exact .finish _ _ _
  · exact .refl

theorem Effects.serveReplay (s : State) : Effects D ph s s.serveReplay := by
  unfold State.serveReplay
  split
  · exact .refl
  split
  · exact .replayHead s
  · exact .refl

theorem State.SameStore.refl (s : State) : s.SameStore s := ⟨rfl, rfl, rfl, rfl⟩

section
variable {s : State} (p : List Byte)

theorem State.setInput_sameStore : s.SameStore (s.setInput p).1 := by
  unfold State.setInput
  dsimp only
  (repeat' split) <;> exact ⟨rfl, rfl, rfl, rfl⟩

theorem State.startInput_sameStore : s.SameStore (s.startInput p).1 := by
  unfold State.startInput
  split <;> exact ⟨rfl, rfl, rfl, rfl⟩

theorem State.defineRegion_sameStore : s.SameStore (s.defineRegion p).1 := by
  unfold State.defineRegion
  (repeat' split) <;> exact ⟨rfl, rfl, rfl, rfl⟩

theorem State.clearRegion_sameStore : s.SameStore (s.clearRegion p).1 := by
  unfold State.clearRegion
  (repeat' split) <;> exact ⟨rfl, rfl, rfl, rfl⟩

theorem State.getRegion_fst : (s.getRegion p).1 = s := by
  unfold State.getRegion
  (repeat' split) <;> rfl

theorem State.commit_sameStore : s.SameStore (s.commit p).1 := by
  unfold State.commit
  (repeat' split) <;> exact ⟨by simp, by simp, by simp, by simp⟩

theorem State.cancelCommit_sameStore : s.SameStore (s.cancelCommit p).1 := by
  unfold State.cancelCommit
  split <;> exact ⟨rfl, rfl, rfl, rfl⟩

theorem State.regionStatus_fst : (s.regionStatus p).1 = s := by
  unfold State.regionStatus
  split <;> rfl

theorem State.readCapture_fst : (s.readCapture p).1 = s := by
  unfold State.readCapture
  dsimp only
  (repeat' split) <;> rfl

theorem State.drainStatus_fst : (s.drainStatus p).1 = s := by
  unfold State.drainStatus
  split <;> rfl

theorem State.setNotices_sameStore : s.SameStore (s.setNotices p).1 := by
  unfold State.setNotices
  split <;> exact ⟨rfl, rfl, rfl, rfl⟩

theorem Effects.release : Effects D .ending s (s.release p).1 := by
  unfold State.release
  split
  · exact .refl
  split
  · exact .refl
  split
  · exact .refl
  rename_i c hc
  have hfetched := (Option.filter_eq_some_iff.mp hc).1
  have hmem := List.mem_of_find?_eq_some hfetched
  have hheld := List.find?_some hfetched
  simp only [State.captureList, List.mem_filter, Bool.and_eq_true, decide_eq_true_eq] at hmem hheld
  exact (Effect.release c hmem.1 hheld.1 hheld.2).run

theorem Effects.stopInputNow : Effects D ph s (s.stopInputNow p).1 := by
  unfold State.stopInputNow
  split
  · exact .stopNow s
  · exact .refl

theorem Effects.stopInputFrameEnd : Effects D ph s (s.stopInputFrameEnd p).1 := by
  unfold State.stopInputFrameEnd
  split
  · exact .stopAtFrameEnd s
  · exact .refl

end

/-! ### The events of the pixel port -/

theorem Steps.execFrameStart {s t : State} (hD : D → s.RecordsDistinct) (h : execFrameStart s = .next t) : Steps D s t := by
  have hfinish := Effects.finishPixel hD
  have hD' : D → s.finishPixel.RecordsDistinct := fun hd => hfinish.keeps_recordsDistinct (hD hd)
  have htaken : Effects D .opening s.finishPixel (s.finishPixel.setFv .high).takeFrameStart :=
    (Effects.setFv _ _).trans (.takeFrameStart hD')
  unfold Machine.execFrameStart at h
  dsimp only at h
  split at h
  · cases h; exact .of_writing hfinish
  · split at h <;> cases h
    · exact ⟨_, hfinish, htaken.trans (.takeLineStart _)⟩
    · exact ⟨_, hfinish, htaken⟩

theorem Effects.execLineStart {s t : State} (hD : D → s.RecordsDistinct) (h : execLineStart s = .next t) : Effects D .writing s t := by
  unfold Machine.execLineStart at h
  dsimp only at h
  refine (Effects.finishPixel hD).trans ?_
  split at h <;> cases h
  · exact .refl
  · exact (Effects.setLv _ _).trans (.takeLineStart _)

theorem Effects.execPixel {s t : State} (hD : D → s.RecordsDistinct) {pd : PixelLines} (h : execPixel pd s = .next t) :
    Effects D .writing s t := by
  have hfinish := Effects.finishPixel hD
  unfold Machine.execPixel at h
  dsimp only at h
  refine hfinish.trans ?_
  split at h <;> cases h
  · exact .refl
  · exact (Effects.setLv _ _).trans (.takePixel (by exact fun hd => hfinish.keeps_recordsDistinct (hD hd)) pd)

theorem Effects.execLineEnd {s t : State} (hD : D → s.RecordsDistinct) (h : execLineEnd s = .next t) : Effects D .writing s t := by
  unfold Machine.execLineEnd at h
  dsimp only at h
  refine (Effects.finishPixel hD).trans ?_
  split at h <;> cases h
  · exact .refl
  · exact (Effects.setLv _ _).trans (.takeLineEnd _)

theorem Effects.execFrameEnd {s t : State} (hD : D → s.RecordsDistinct) (h : execFrameEnd s = .next t) : Effects D .writing s t := by
  unfold Machine.execFrameEnd at h
  dsimp only at h
  refine (Effects.finishPixel hD).trans ?_
  split at h
  · cases h; exact .refl
  · split at h <;> cases h
    · exact (((Effects.setLv _ _).trans (.takeLineEnd _)).trans (.setFv _ _)).trans (.takeFrameEnd _)
    · exact (Effects.setFv _ _).trans (.takeFrameEnd _)

/-! ### The commands of the Link Controller and of the drains -/

theorem Effects.take {s t : State} {d : DrainId} (h : execTake d s = .next t) : Effects D ph s t := by
  unfold execTake at h
  split at h
  · cases h; exact .strayTake _ _
  · rename_i hq
    split at h <;> cases h
    · rename_i hc hp; exact .acceptTake hq hc hp
    · exact .refl

theorem Effects.stallTimerExpiry {s t : State} {d : DrainId} (h : execStallTimerExpiry d s = .next t) : Effects D ph s t := by
  unfold execStallTimerExpiry at h
  split at h <;> cases h
  · rename_i hrun
    rw [Bool.and_eq_true] at hrun
    exact (Effects.endHead _ hrun.2).trans (.raise _ _)
  · exact .refl

/-- The commands that stand alone: RELEASE, a link break, and those that may end in a reset. -/
def endsAlone : Instr → Bool
  | .release | .linkBreak | .pinReset | .frameSent => true
  | _ => false

theorem Effects.exec_endsAlone {c : Instr} {s t : State} (hc : endsAlone c = true) (h : exec c s = .next t) : Effects D .ending s t := by
  cases c <;> simp only [endsAlone, Bool.false_eq_true] at hc
  case release => cases h; exact .serve _ _ (fun p => .release p)
  case pinReset => cases h; exact (Effect.reset .pin).run
  case linkBreak =>
    change execLinkBreak s = .next t at h
    unfold execLinkBreak at h
    split at h
    · split at h <;> cases h
      · exact (Effect.reset .request).run
      · refine (Effect.returned ?_ ?_ ?_ ?_).run <;> rfl
    · cases h; exact .refl
  case frameSent =>
    change execFrameSent s = .next t at h
    unfold execFrameSent at h
    split at h
    · cases h; exact .refl
    · cases h; exact .setLink _ _
    · split at h <;> cases h
      · exact (Effect.reset .request).run
      · exact .setLink _ _

/-- The receiver's commands, readiness and a frame that ends with no reset pending reach the Link Controller and the readiness alone. -/
theorem exec_link_sameStore {c : Instr} {s t : State} (h : exec c s = .next t)
    (hc : match c with
      | .requestFrame _ | .framingError | .lenRefused _ | .gapTimerExpiry | .rxdReturnsHigh | .frameByteTaken _ | .partReady _ _ => True
      | .frameSent => s.link.resetPending = false
      | _ => False) : s.SameStore t := by
  have setLink : ∀ l : Link, s.SameStore (s.setLink l) := fun _ => ⟨rfl, rfl, rfl, rfl⟩
  cases c <;> simp only at hc
  case frameByteTaken b =>
    change execFrameByteTaken b s = .next t at h
    unfold execFrameByteTaken at h
    split at h <;> cases h
    · exact setLink _
    · exact .refl s
  case lenRefused len =>
    change execLenRefused len s = .next t at h
    unfold execLenRefused at h
    split at h <;> cases h
    · exact setLink _
    · exact .refl s
  case requestFrame b =>
    change execRequestFrame b s = .next t at h
    unfold execRequestFrame at h
    split at h
    · split at h <;> cases h
      · exact setLink _
      · exact .refl s
    all_goals cases h; exact .refl s
  case framingError =>
    change execFramingError s = .next t at h
    unfold execFramingError at h
    split at h
    · split at h <;> cases h <;> exact setLink _
    · cases h; exact .refl s
  case gapTimerExpiry =>
    change execGapTimerExpiry s = .next t at h
    unfold execGapTimerExpiry at h
    split at h <;> cases h
    · exact setLink _
    · exact .refl s
  case rxdReturnsHigh =>
    change execRxdReturnsHigh s = .next t at h
    unfold execRxdReturnsHigh at h
    split at h <;> cases h
    · exact setLink _
    · exact .refl s
  case partReady baud rxd =>
    change execPartReady baud rxd s = .next t at h
    unfold execPartReady at h
    split at h <;> cases h
    · exact .refl s
    · exact ⟨rfl, rfl, rfl, rfl⟩
  case frameSent =>
    change execFrameSent s = .next t at h
    unfold execFrameSent at h
    split at h
    · cases h; exact .refl s
    · cases h; exact setLink _
    · simp only [hc, Bool.false_and, Bool.false_eq_true, if_false] at h
      cases h; exact setLink _

/-- Off the pixel port no pixel is written and no record is opened. -/
theorem Effects.exec_offPort {c : Instr} {s t : State} (hD : D → s.RecordsDistinct) (hport : atPixelPort c = false)
    (hc : endsAlone c = false) (h : exec c s = .next t) : Effects D ph s t := by
  cases c with
  | release | linkBreak | pinReset | frameSent => simp [endsAlone] at hc
  | frameStart | lineStart | pixel | lineEnd | frameEnd => simp [atPixelPort] at hport
  | take d => exact .take h
  | stallTimerExpiry d => exact .stallTimerExpiry h
  | reset => cases h; exact .serveReset s
  | unknownRequest => cases h; exact .serveUnknown s
  | replay => cases h; exact .serveReplay s
  | identify | status | poolStatus => cases h; exact .serve _ _ fun _ => .refl
  | setInput => cases h; exact .serve _ _ fun p => .quiet (State.setInput_sameStore p)
  | startInput => cases h; exact .serve _ _ fun p => .quiet (State.startInput_sameStore p)
  | stopInputNow => cases h; exact .serve _ _ fun p => .stopInputNow p
  | stopInputFrameEnd => cases h; exact .serve _ _ fun p => .stopInputFrameEnd p
  | defineRegion => cases h; exact .serve _ _ fun p => .quiet (State.defineRegion_sameStore p)
  | clearRegion => cases h; exact .serve _ _ fun p => .quiet (State.clearRegion_sameStore p)
  | getRegion => cases h; exact .serve _ _ fun p => (State.getRegion_fst p).symm ▸ .refl
  | commit => cases h; exact .serve _ _ fun p => .quiet (State.commit_sameStore p)
  | cancelCommit => cases h; exact .serve _ _ fun p => .quiet (State.cancelCommit_sameStore p)
  | haltRegion => cases h; exact .serve _ _ fun p => .haltRegion s p
  | regionStatus => cases h; exact .serve _ _ fun p => (State.regionStatus_fst p).symm ▸ .refl
  | fetch => cases h; exact .serve _ _ fun p => .fetch s p
  | read => cases h; exact .serve _ _ fun p => (State.readCapture_fst p).symm ▸ .refl
  | flush => cases h; exact .serve _ _ fun p => .flush hD p
  | setDrainEnable => cases h; exact .serve _ _ fun p => .setDrainWith .enableDrain s p
  | setDrainDisable => cases h; exact .serve _ _ fun p => .setDrainWith .disableDrain s p
  | setDrainAbort => cases h; exact .serve _ _ fun p => .setDrainWith .abortDrain s p
  | drainStatus => cases h; exact .serve _ _ fun p => (State.drainStatus_fst p).symm ▸ .refl
  | setNotices => cases h; exact .serve _ _ fun p => .quiet (State.setNotices_sameStore p)
  | requestFrame | framingError | lenRefused | gapTimerExpiry | rxdReturnsHigh | frameByteTaken | partReady =>
    exact .quiet (exec_link_sameStore h trivial)

theorem Steps.exec {c : Instr} {s t : State} (hD : D → s.RecordsDistinct) (hc : endsAlone c = false) (h : exec c s = .next t) :
    Steps D s t := by
  cases hport : atPixelPort c with
  | false => exact .of_writing (.exec_offPort hD hport hc h)
  | true =>
    cases c <;> simp only [atPixelPort, Bool.false_eq_true] at hport
    case frameStart => exact .execFrameStart hD h
    case lineStart => exact .of_writing (.execLineStart hD h)
    case pixel pd => exact .of_writing (.execPixel hD h)
    case lineEnd => exact .of_writing (.execLineEnd hD h)
    case frameEnd => exact .of_writing (.execFrameEnd hD h)

/-- A step is a run of effects. -/
theorem step_effects {s t : State} (hD : D → s.RecordsDistinct) (h : step s = .next t) : Steps D s t ∨ Effects D .ending s t := by
  cases hp : s.pending with
  | nil =>
    rw [step_nil s hp] at h
    cases h
    exact .inl (.of_writing (.servePixel hD))
  | cons c rest =>
    rw [step_cons s c rest hp] at h
    have htake : s.SameStore { s with pending := rest } := ⟨rfl, rfl, rfl, rfl⟩
    cases hc : endsAlone c with
    | true => exact .inr ((Effects.quiet htake).trans (.exec_endsAlone hc h))
    | false =>
      obtain ⟨u, hw, ho⟩ := Steps.exec (D := D) (by exact hD) hc h
      exact .inl ⟨u, (Effects.quiet htake).trans hw, ho⟩

/-- What every effect keeps, a step keeps. -/
theorem step_keeps {P : State → Prop} (h : ∀ {ph s t}, Effect D ph s t → P s → P t) {s t : State} (hD : D → s.RecordsDistinct)
    (hst : step s = .next t) (hs : P s) : P t := by
  rcases step_effects hD hst with hsteps | hending
  · exact hsteps.keeps h hs
  · exact hending.keeps h hs

end Sys2Proof.Machine
end

section
/-! SUPPORT. The laws of the bytes of memory, of the pool and of the Directory: each is kept by every effect, and so by every step. -/

namespace Sys2Proof.Machine

variable {D : Prop} {ph : Phase}

/-! ### The queues of the drains -/

theorem State.evaluateBurst_queue (s : State) (d e : DrainId) : ((s.evaluateBurst d).drain e).queue = (s.drain e).queue := by
  obtain ⟨y, hy, -, heq⟩ := s.evaluateBurst_adjusts d
  rw [heq]
  by_cases he : e = d
  · subst he; rw [State.drain_setDrain, hy.queue]
  · rw [State.setDrain_drain_other _ _ he]

theorem State.setDrain_queue (s : State) {d : DrainId} {y : Drain} (hy : y.queue = (s.drain d).queue) (e : DrainId) :
    ((s.setDrain d y).drain e).queue = (s.drain e).queue := by
  by_cases he : e = d
  · subst he; rw [State.drain_setDrain, hy]
  · rw [State.setDrain_drain_other _ _ he]

theorem State.updateCapture_drain (s : State) (n : Nat) (f : Capture → Capture) (d : DrainId) :
    (s.updateCapture n f).drain d = s.drain d := by
  cases d <;> rfl

theorem State.promote_queue (s : State) (d e : DrainId) : ((s.promote d).drain e).queue = (s.drain e).queue := by
  unfold State.promote
  split
  · rfl
  · rw [State.evaluateBurst_queue, State.setDrain_queue, State.updateCapture_drain]
    rw [State.updateCapture_drain]

theorem State.moveOn_queue (s : State) (d e : DrainId) : ((s.moveOn d).drain e).queue = (s.drain e).queue := by
  unfold State.moveOn
  split
  · exact s.setDrain_queue (y := (s.drain d).atRest .disabled) rfl e
  · split
    · exact s.setDrain_queue (y := (s.drain d).atRest .idle) rfl e
    · exact s.promote_queue d e

theorem State.joinQueue_queue (s : State) (d e : DrainId) (slot : Nat) :
    ((s.joinQueue d slot).drain e).queue = if e = d then (s.drain d).queue ++ [slot] else (s.drain e).queue := by
  have hjoined : ((s.setDrain d { s.drain d with queue := (s.drain d).queue ++ [slot] }).drain e).queue =
      if e = d then (s.drain d).queue ++ [slot] else (s.drain e).queue := by
    by_cases he : e = d
    · subst he; rw [State.drain_setDrain, if_pos rfl]
    · rw [State.setDrain_drain_other _ _ he, if_neg he]
  unfold State.joinQueue
  dsimp only
  split
  · rw [State.promote_queue, hjoined]
  · exact hjoined

/-! ### Promotions of records -/

/-- From `s` to `t` the memory stays, and records stay but for those at a drain's queue that become ACTIVE. -/
def State.Promotes (s t : State) : Prop :=
  t.memory = s.memory ∧ ∃ f : Capture → Capture, t.captures = s.captures.map f ∧
    ∀ x, f x = x ∨ (f x = { x with delivery := .active } ∧ ∃ d, x.slot ∈ (t.drain d).queue)

theorem State.Promotes.of_captures {s t : State} (hm : t.memory = s.memory) (hc : t.captures = s.captures) : s.Promotes t :=
  ⟨hm, id, by rw [hc, List.map_id], fun x => .inl rfl⟩

theorem State.promote_promotes (s : State) (d : DrainId) : s.Promotes (s.promote d) := by
  refine ⟨s.promote_memory d, _, s.promote_captures d, fun x => ?_⟩
  by_cases hx : some x.slot = (s.drain d).queue.head?
  · exact .inr ⟨if_pos hx, d, by rw [State.promote_queue]; exact List.mem_of_head? hx.symm⟩
  · exact .inl (if_neg hx)

theorem State.moveOn_promotes (s : State) (d : DrainId) : s.Promotes (s.moveOn d) := by
  unfold State.moveOn
  split
  · exact .of_captures (by simp) (by simp)
  · split
    · exact .of_captures (by simp) (by simp)
    · exact s.promote_promotes d

theorem State.joinQueue_promotes (s : State) (d : DrainId) (slot : Nat) : s.Promotes (s.joinQueue d slot) := by
  refine ⟨s.joinQueue_memory d slot, _, s.joinQueue_captures d slot, fun x => ?_⟩
  split
  · rename_i hx
    refine .inr ⟨rfl, d, ?_⟩
    rw [State.joinQueue_queue, if_pos rfl]
    exact List.mem_of_head? hx.2.symm
  · exact .inl rfl

theorem State.tellDrainOfWrite_promotes (s : State) (c : Capture) : s.Promotes (s.tellDrainOfWrite c) := by
  rcases s.tellDrainOfWrite_cases c with ⟨d, -, -, heq⟩ | ⟨-, d, y, -, heq⟩ <;> rw [heq]
  · exact s.joinQueue_promotes d c.slot
  · exact .of_captures (by simp) (by simp)

/-- A projection that does not look at the delivery state is left by promotions. -/
theorem State.Promotes.map_eq {α : Type} {s t : State} (h : s.Promotes t) {π : Capture → α}
    (hπ : ∀ x : Capture, π { x with delivery := .active } = π x) : t.captures.map π = s.captures.map π := by
  obtain ⟨-, f, hf, hcases⟩ := h
  rw [hf, List.map_map]
  refine List.map_congr_left fun x _ => ?_
  rcases hcases x with hx | ⟨hx, -⟩ <;> rw [Function.comp_apply, hx]
  exact hπ x

/-! ### The bytes of memory -/

theorem Effect.keeps_cellsCanonical {s t : State} (h : Effect D ph s t) (hs : s.CellsCanonical) : t.CellsCanonical := by
  have same : ∀ {t : State}, t.memory.cells = s.memory.cells → t.CellsCanonical := fun heq => by rwa [State.CellsCanonical, heq]
  cases h with
  | quiet h => exact same (by rw [h.memory])
  | astray hD hm hA hB hc => exact same hm
  | adjust d y h => exact same (by simp)
  | free c hw hc => exact hs
  | mark c reason ha hc => exact hs
  | fill c hc hb => exact hs
  | fetch c hc hl hw => exact hs
  | promote d h => exact same (by simp)
  | endHead d reason st h hst =>
    unfold State.endHead
    split
    · exact same (by simp)
    · dsimp only
      split <;> exact same (by simp)
  | send d c k hc =>
    unfold State.sendDataWord
    dsimp only
    split <;> exact hs
  | lastTake d c hc hq => exact same (by rw [(State.moveOn_promotes _ d).1, State.freeCapture_cells])
  | write v hc hu hc' =>
    rw [State.CellsCanonical, (State.tellDrainOfWrite_promotes _ _).1]
    refine writePixelCells_wf _ ?_ _ _
    rcases hu with ⟨-, rfl⟩ | ⟨-, -, rfl⟩
    · exact hs
    · rw [State.grantBlock_cells]; exact hs
  | opens slot r seq d hslot => exact hs
  | release c hc hl ha => exact hs
  | returned hm hc hA hB => exact same (by rw [hm])
  | reset cause => exact same (s.partReset_kept cause).1

/-! ### The law of the pool -/

theorem map_update_keeps {α : Type} {l : List Capture} {n : Nat} {f : Capture → Capture} {π : Capture → α} (hf : ∀ x, π (f x) = π x) :
    (l.map (fun x => if x.slot = n then f x else x)).map π = l.map π := by
  rw [List.map_map]
  exact List.map_congr_left fun x _ => by by_cases hx : x.slot = n <;> simp [hx, hf]

/-- The law of the pool looks at the pool and at the chains. -/
theorem State.PoolLaw.of_chains {s t : State} (h : s.PoolLaw) (hp : t.memory.freePool = s.memory.freePool)
    (hc : t.captures.map Capture.chain = s.captures.map Capture.chain) : t.PoolLaw := by
  rw [State.PoolLaw, State.chainBlocks, List.flatMap_def] at h ⊢
  rwa [hp, hc]

/-- Blocks that move between the pool and one place in the list of records keep the law. -/
theorem State.PoolLaw.replace {s t : State} {before after mid : List Capture} {c : Capture} (h : s.PoolLaw)
    (hs : s.captures = before ++ c :: after) (ht : t.captures = before ++ mid ++ after)
    (hp : (t.memory.freePool ++ mid.flatMap Capture.chain).Perm (s.memory.freePool ++ c.chain)) : t.PoolLaw := by
  rw [State.PoolLaw, State.chainBlocks] at h ⊢
  refine List.Perm.trans ?_ h
  rw [hs, ht]
  rw [← Multiset.coe_eq_coe] at hp ⊢
  simp only [List.flatMap_append, List.flatMap_cons, ← Multiset.coe_add] at hp ⊢
  have regroup : ∀ a m p c b f : Multiset Nat, a + m = p + c → a + (b + m + f) = p + (b + (c + f)) := fun a m p c b f heq =>
    calc a + (b + m + f) = (a + m) + (b + f) := by abel
      _ = (p + c) + (b + f) := by rw [heq]
      _ = p + (b + (c + f)) := by abel
  simpa only [add_assoc] using regroup _ _ _ _ _ _ hp

/-- The law of the pool, with distinct records. -/
def State.PoolKept (s : State) : Prop := s.PoolLaw ∧ s.RecordsDistinct

section
variable {s : State} (h : s.PoolKept)
include h

theorem State.PoolKept.free {c : Capture} (hc : c ∈ s.captures) : (s.freeCapture c).PoolLaw := by
  obtain ⟨hpool, hdistinct⟩ := h
  obtain ⟨before, after, hsplit, -, -, hfilter⟩ := hdistinct.split hc
  exact hpool.replace hsplit (mid := []) (by simpa using hfilter) (by simp)

theorem State.PoolKept.update {c : Capture} (hc : c ∈ s.captures) {t : State} {f : Capture → Capture}
    (ht : t.captures = s.captures.map (fun x => if x.slot = c.slot then f x else x))
    (hp : (t.memory.freePool ++ (f c).chain).Perm (s.memory.freePool ++ c.chain)) : t.PoolLaw := by
  obtain ⟨hpool, hdistinct⟩ := h
  obtain ⟨before, after, hsplit, -, hmap, -⟩ := hdistinct.split hc
  exact hpool.replace hsplit (mid := [f c]) (by rw [ht, hmap]; simp) (by simpa using hp)

end

/-- A data word that ends a block returns it; any other moves no block. -/
theorem State.sendDataWord_eq (s : State) (c : Capture) (k : Nat) :
    s.sendDataWord c k =
      if c.endsBlock k then
        { s with
          memory := { s.memory with freePool := s.memory.freePool ++ c.chain.take 1 }
          captures := s.captures.map (fun x => if x.slot = c.slot
            then { x with bytesSent := min (2 * (k + 1)) x.bytesExpected, chain := x.chain.drop 1 } else x) }
      else { s with captures := s.captures.map (fun x => if x.slot = c.slot
            then { x with bytesSent := min (2 * (k + 1)) x.bytesExpected } else x) } := by
  unfold State.sendDataWord
  by_cases hk : c.endsBlock k = true
  · simp only [hk, if_true, State.updateCapture, State.returnBlocks, List.map_map]
    congr 1
    exact List.map_congr_left fun x _ => by by_cases hx : x.slot = c.slot <;> simp [hx]
  · simp only [hk]
    rfl

theorem State.head_mem {s : State} {d : DrainId} {c : Capture} (h : s.head d = some c) :
    c ∈ s.captures ∧ (s.drain d).queue.head? = some c.slot := by
  unfold State.head at h
  split at h
  · cases h
  · rename_i slot rest hq
    obtain ⟨hmem, hslot⟩ := State.capture_eq_some h
    exact ⟨hmem, by rw [hq, hslot]; rfl⟩

theorem Effect.keeps_poolLaw {s t : State} (hD : D) (h : Effect D ph s t) (hs : s.PoolKept) : t.PoolLaw := by
  have hpool := hs.1
  cases h with
  | quiet h => exact hpool.of_chains (by rw [h.memory]) (by rw [h.captures])
  | astray hD' => exact absurd hD hD'
  | adjust d y h => exact hpool.of_chains (by simp) (by simp)
  | free c hw hc => exact hs.free (hc hD)
  | mark c reason ha hc => exact hs.update (State.openCapture_eq_some (hc hD)).1 rfl (by simp)
  | fill c hc hb => exact hpool.of_chains rfl (map_update_keeps fun _ => rfl)
  | fetch c hc hl hw => exact hpool.of_chains rfl (map_update_keeps fun _ => rfl)
  | promote d h => exact hpool.of_chains (by simp) ((s.promote_promotes d).map_eq fun _ => rfl)
  | endHead d reason st h hst =>
    unfold State.endHead
    split
    · exact hpool.of_chains (by simp) (by simp)
    · rename_i c hc
      have hfree := hs.free (State.head_mem hc).1
      dsimp only
      split <;> exact hfree.of_chains (by simp) (by simp)
  | send d c k hc =>
    rw [State.sendDataWord_eq]
    split
    · refine hs.update (State.head_mem hc).1 rfl ?_
      simp only [List.append_assoc, List.take_append_drop]
      exact .refl _
    · exact hpool.of_chains rfl (map_update_keeps fun _ => rfl)
  | lastTake d c hc hq =>
    have hmoved := State.moveOn_promotes (s.freeCapture c) d
    exact (hs.free (State.head_mem hc).1).of_chains (by rw [hmoved.1]) (hmoved.map_eq fun _ => rfl)
  | @write s u c c' v hc hu hc' =>
    have hu' : u.PoolLaw := by
      rcases hu with ⟨-, rfl⟩ | ⟨-, hfree, rfl⟩
      · exact hpool
      · obtain ⟨b, rest, hbr⟩ := List.exists_cons_of_ne_nil hfree
        rw [s.grantBlock_of_free c.slot b rest hbr]
        refine hs.update (State.openCapture_eq_some (hc hD)).1 rfl ?_
        rw [hbr]
        exact (List.append_assoc rest c.chain [b]) ▸ List.perm_append_singleton b (rest ++ c.chain)
    have htold := State.tellDrainOfWrite_promotes (u.storePixel c' v) c'
    exact hu'.of_chains (by rw [htold.1]; rfl) ((htold.map_eq fun _ => rfl).trans (map_update_keeps fun _ => rfl))
  | opens slot r seq d hslot =>
    rw [State.PoolLaw, State.chainBlocks] at hpool ⊢
    simpa [openedCapture] using hpool
  | release c hc hl ha => exact hs.free hc
  | returned hm hc hA hB =>
    refine hpool.of_chains (by rw [hm]) ?_
    rw [hc, List.map_map]
    exact List.map_congr_left fun c _ => by simp only [Function.comp_apply, Capture.returned]; split <;> rfl
  | reset cause =>
    rw [State.PoolLaw]
    exact .of_eq (by simp [State.chainBlocks, State.partReset, State.reset, CaptureMemory.reset])

/-- Settles O52: the effects move whole blocks between the pool and one chain, and write bytes through the canonical form alone. -/
theorem stepsKeepCellsAndPoolLaw : Obligations.StepsKeepCellsAndPoolLaw := by
  unfold Obligations.StepsKeepCellsAndPoolLaw
  refine ⟨fun s t hs hstep => ?cells, fun s t hpool hdistinct hstep => ?pool⟩
  case cells => exact step_keeps (D := False) (fun h => h.keeps_cellsCanonical) False.elim hstep hs
  case pool =>
    exact step_keeps (D := True) (P := State.PoolKept) (fun h hs => ⟨h.keeps_poolLaw trivial hs, h.keeps_recordsDistinct hs.2⟩)
      (fun _ => hdistinct) hstep ⟨hpool, hdistinct⟩

end Sys2Proof.Machine
end

section
/-! SUPPORT. The laws of the Directory: legal records, queues of the right routes, COMPLETE captures fully written, link chains as long as
their bytes. -/

namespace Sys2Proof.Machine

variable {D : Prop} {ph : Phase}

/-! ### Legal records and routed queues -/

theorem State.queuesRouted_iff {s : State} :
    s.QueuesRouted ↔ ∀ d, ∀ n ∈ (s.drain d).queue, ∃ c ∈ s.captures, c.slot = n ∧ c.route = .drain d :=
  ⟨fun ⟨hA, hB⟩ d => by cases d; exacts [hA, hB], fun h => ⟨h .a, h .b⟩⟩

/-- Records that change and keep their numbers and routes, with queues that name records of the right route. -/
theorem State.DirectoryLaw.of_map {s t : State} (h : s.DirectoryLaw) {f : Capture → Capture} (hc : t.captures = s.captures.map f)
    (hf : ∀ c ∈ s.captures, (f c).slot = c.slot ∧ (f c).route = c.route ∧ (f c).legal = true)
    (hq : ∀ d, ∀ n ∈ (t.drain d).queue, ∃ c ∈ s.captures, c.slot = n ∧ c.route = .drain d) : t.DirectoryLaw := by
  obtain ⟨⟨hnodup, hlt⟩, -, -⟩ := h
  have hslots : t.captures.map Capture.slot = s.captures.map Capture.slot := by
    rw [hc, List.map_map]
    exact List.map_congr_left fun c hc => (hf c hc).1
  have horigin : ∀ y ∈ t.captures, ∃ c ∈ s.captures, f c = y := by rw [hc]; simp
  refine ⟨⟨hslots ▸ hnodup, fun y hy => ?_⟩, fun y hy => ?_, State.queuesRouted_iff.mpr fun d n hn => ?_⟩
  · obtain ⟨c, hc, rfl⟩ := horigin y hy
    exact (hf c hc).1 ▸ hlt c hc
  · obtain ⟨c, hc, rfl⟩ := horigin y hy
    exact (hf c hc).2.2
  · obtain ⟨c, hmem, hslot, hroute⟩ := hq d n hn
    obtain ⟨hs, hr, -⟩ := hf c hmem
    exact ⟨f c, hc ▸ List.mem_map_of_mem hmem, hs.trans hslot, hr.trans hroute⟩

/-- One record changes and keeps its number and its route; the queues stay. -/
theorem State.DirectoryLaw.of_update {s t : State} (h : s.DirectoryLaw) {c : Capture} (hmem : c ∈ s.captures) {f : Capture → Capture}
    (hc : t.captures = s.captures.map (fun x => if x.slot = c.slot then f x else x))
    (hf : (f c).slot = c.slot ∧ (f c).route = c.route ∧ (f c).legal = true)
    (hq : ∀ d, (t.drain d).queue = (s.drain d).queue) : t.DirectoryLaw := by
  obtain ⟨hdistinct, hlegal, hrouted⟩ := id h
  refine h.of_map hc (fun x hx => ?_) fun d n hn => State.queuesRouted_iff.mp hrouted d n (hq d ▸ hn)
  by_cases hslot : x.slot = c.slot
  · obtain rfl := hdistinct.eq_of_slot hmem hx hslot
    simpa using hf
  · simpa [hslot] using hlegal x hx

/-- A record leaves with its place in the queues. -/
theorem State.DirectoryLaw.of_filter {s t : State} (h : s.DirectoryLaw) {slot : Nat}
    (hc : t.captures = s.captures.filter (fun x => x.slot ≠ slot))
    (hq : ∀ d, (t.drain d).queue = (s.drain d).queue.filter (fun n => n ≠ slot)) : t.DirectoryLaw := by
  obtain ⟨⟨hnodup, hlt⟩, hlegal, hrouted⟩ := h
  have hmem : ∀ y ∈ t.captures, y ∈ s.captures := fun y hy => (List.mem_filter.mp (hc ▸ hy)).1
  refine ⟨⟨?_, fun y hy => hlt y (hmem y hy)⟩, fun y hy => hlegal y (hmem y hy), State.queuesRouted_iff.mpr fun d n hn => ?_⟩
  · rw [hc]
    exact hnodup.sublist (filter_slots_sublist _ _)
  · rw [hq, List.mem_filter] at hn
    obtain ⟨c, hcm, hslot, hroute⟩ := State.queuesRouted_iff.mp hrouted d n hn.1
    exact ⟨c, by rw [hc, List.mem_filter]; exact ⟨hcm, by rw [hslot]; exact hn.2⟩, hslot, hroute⟩

theorem Capture.legal_active {c : Capture} {d : DrainId} (hr : c.route = .drain d) :
    Capture.legal { c with delivery := .active } = true := by
  unfold Capture.legal
  cases hf : c.fill <;> simp_all

/-- Promotions by queues of the right routes keep the law. -/
theorem State.DirectoryLaw.of_promotes {s t : State} (h : s.DirectoryLaw) (hp : s.Promotes t)
    (hq : ∀ d, ∀ n ∈ (t.drain d).queue, ∃ c ∈ s.captures, c.slot = n ∧ c.route = .drain d) : t.DirectoryLaw := by
  obtain ⟨hdistinct, hlegal, -⟩ := id h
  obtain ⟨-, f, hf, hcases⟩ := hp
  refine h.of_map hf (fun x hx => ?_) hq
  rcases hcases x with heq | ⟨heq, d, hin⟩ <;> rw [heq]
  · exact ⟨rfl, rfl, hlegal x hx⟩
  · obtain ⟨c, hc, hslot, hroute⟩ := hq d _ hin
    obtain rfl := hdistinct.eq_of_slot hx hc hslot
    exact ⟨rfl, rfl, Capture.legal_active hroute⟩

theorem State.DirectoryLaw.of_same {s t : State} (h : s.DirectoryLaw) (hc : t.captures = s.captures)
    (hq : ∀ d, (t.drain d).queue = (s.drain d).queue) : t.DirectoryLaw :=
  h.of_map (hc.trans s.captures.map_id.symm) (fun x hx => ⟨rfl, rfl, h.2.1 x hx⟩)
    fun d n hn => State.queuesRouted_iff.mp h.2.2 d n (hq d ▸ hn)

theorem State.DirectoryLaw.free {s : State} (h : s.DirectoryLaw) (c : Capture) : (s.freeCapture c).DirectoryLaw :=
  h.of_filter rfl fun d => by rw [State.freeCapture_drain]; rfl

theorem State.endHead_cases (s : State) (d : DrainId) (reason : LossReason) (st : DrainState) :
    (s.head d = none ∧ s.endHead d reason st = s.setDrain d ((s.drain d).atRest st)) ∨
    ∃ c u, s.head d = some c ∧ (s.freeCapture c).SameStore u ∧ s.endHead d reason st = u.setDrain d ((u.drain d).atRest st) := by
  unfold State.endHead
  cases hc : s.head d with
  | none => exact .inl ⟨rfl, rfl⟩
  | some c =>
    refine .inr ⟨c, _, rfl, ?_, rfl⟩
    split
    · exact .refl _
    · exact ⟨rfl, rfl, rfl, rfl⟩

/-- What the granted block and the write do to the records, and the queues that they leave. -/
theorem State.DirectoryLaw.write {s u : State} {c c' : Capture} (h : s.DirectoryLaw) (hc : s.openCapture c.region = some c)
    (hu : u = s ∨ (s.memory.freePool ≠ [] ∧ u = s.grantBlock c.slot)) (hc' : u.capture c.slot = some c') (v : Half) :
    ((u.storePixel c' v).tellDrainOfWrite c').DirectoryLaw := by
  have hmem := (State.openCapture_eq_some hc).1
  have hu' : u.DirectoryLaw := by
    rcases hu with rfl | ⟨hfree, rfl⟩
    · exact h
    · obtain ⟨b, rest, hbr⟩ := List.exists_cons_of_ne_nil hfree
      rw [s.grantBlock_of_free c.slot b rest hbr]
      exact h.of_update hmem rfl ⟨rfl, rfl, h.2.1 c hmem⟩ fun d => by cases d <;> rfl
  obtain ⟨hmem', -⟩ := State.capture_eq_some hc'
  have hstored : (u.storePixel c' v).DirectoryLaw :=
    hu'.of_update hmem' rfl ⟨rfl, rfl, hu'.2.1 c' hmem'⟩ fun d => by cases d <;> rfl
  refine hstored.of_promotes (State.tellDrainOfWrite_promotes _ _) fun d n hn => ?_
  have hrouted := State.queuesRouted_iff.mp hstored.2.2
  rcases (u.storePixel c' v).tellDrainOfWrite_cases c' with ⟨e, he, -, heq⟩ | ⟨-, e, y, hy, heq⟩ <;> rw [heq] at hn
  · rw [State.joinQueue_queue] at hn
    split at hn
    · rename_i hde
      subst hde
      rcases List.mem_append.mp hn with hn | hn
      · exact hrouted d n hn
      · obtain rfl := List.mem_singleton.mp hn
        exact ⟨_, List.mem_map_of_mem hmem', by simp, by simpa using he⟩
    · exact hrouted d n hn
  · rw [State.setDrain_queue _ hy.queue] at hn
    exact hrouted d n hn

theorem Effect.keeps_directoryLaw {s t : State} (hD : D) (h : Effect D ph s t) (hs : s.DirectoryLaw) : t.DirectoryLaw := by
  have hrouted := State.queuesRouted_iff.mp hs.2.2
  cases h with
  | quiet h => exact hs.of_same h.captures fun d => by rw [h.drain d]
  | astray hD' => exact absurd hD hD'
  | adjust d y h => exact hs.of_same (by simp) (s.setDrain_queue h.queue)
  | free c hw hc => exact hs.free c
  | mark c reason ha hc =>
    obtain ⟨hmem, -, hfill⟩ := State.openCapture_eq_some (hc hD)
    refine hs.of_update hmem rfl ⟨rfl, rfl, ?_⟩ fun d => by cases d <;> rfl
    have hlegal := hs.2.1 c hmem
    unfold Capture.legal at hlegal ⊢
    cases hr : c.route <;> simp_all
  | fill c hc hb => exact hs.of_update (State.openCapture_eq_some hc).1 rfl ⟨rfl, rfl, rfl⟩ fun d => by cases d <;> rfl
  | fetch c hc hl hw =>
    refine hs.of_update hc rfl ⟨rfl, rfl, ?_⟩ fun d => by cases d <;> rfl
    have hfill : c.fill = .complete := by simp_all [Capture.isWaiting]
    simp [Capture.legal, hfill]
  | promote d h => exact hs.of_promotes (s.promote_promotes d) fun e n hn => hrouted e n (s.promote_queue d e ▸ hn)
  | endHead d reason st h hst =>
    rcases s.endHead_cases d reason st with ⟨-, heq⟩ | ⟨c, u, -, hu, heq⟩ <;> rw [heq]
    · exact hs.of_same (by simp) (s.setDrain_queue (y := (s.drain d).atRest st) rfl)
    · have hfreed := (hs.free c).of_same hu.captures fun e => by rw [hu.drain e]
      exact hfreed.of_same (by simp) (u.setDrain_queue (y := (u.drain d).atRest st) rfl)
  | send d c k hc =>
    obtain ⟨hmem, -⟩ := State.head_mem hc
    have hlegal := hs.2.1 c hmem
    rw [State.sendDataWord_eq]
    split
    · exact hs.of_update hmem rfl ⟨rfl, rfl, hlegal⟩ fun d => by cases d <;> rfl
    · exact hs.of_update hmem rfl ⟨rfl, rfl, hlegal⟩ fun d => by cases d <;> rfl
  | lastTake d c hc hq =>
    have hfreed := State.queuesRouted_iff.mp (hs.free c).2.2
    exact (hs.free c).of_promotes (State.moveOn_promotes _ d) fun e n hn => hfreed e n (State.moveOn_queue _ d e ▸ hn)
  | write v hc hu hc' => exact hs.write (hc hD) (hu.imp And.right And.right) (hc' hD) v
  | opens slot r seq d hslot =>
    have hdistinct := (Effect.opens (D := D) slot r seq d hslot).keeps_recordsDistinct hs.1
    refine ⟨hdistinct, fun c hc => ?_, State.queuesRouted_iff.mpr fun e n hn => ?_⟩
    · rcases List.mem_append.mp hc with hc | hc
      · exact hs.2.1 c hc
      · rw [List.mem_singleton.mp hc]; rfl
    · obtain ⟨c, hc, hn⟩ := hrouted e n (by cases e <;> exact hn)
      exact ⟨c, List.mem_append_left _ hc, hn⟩
  | release c hc hl ha => exact hs.free c
  | returned hm hc hA hB =>
    refine hs.of_map hc (fun c hc => ?_) fun d n hn => hrouted d n ?_
    · have hlegal := hs.2.1 c hc
      unfold Capture.returned
      split
      · rename_i hheld
        unfold Capture.legal at hlegal ⊢
        cases hf : c.fill <;> simp_all
      · exact ⟨rfl, rfl, hlegal⟩
    · cases d
      · rwa [State.drain, hA] at hn
      · rwa [State.drain, hB] at hn
  | reset cause =>
    refine ⟨⟨List.nodup_nil, fun c hc => ?_⟩, fun c hc => ?_, State.queuesRouted_iff.mpr fun d n hn => ?_⟩
    · cases hc
    · cases hc
    · rw [State.partReset_drain] at hn
      cases hn

/-- Settles O53: every effect keeps legal records, and every record that joins a queue or becomes ACTIVE by one is of its route. -/
theorem stepsKeepDirectoryLaw : Obligations.StepsKeepDirectoryLaw := by
  unfold Obligations.StepsKeepDirectoryLaw
  intro s t hs hstep
  exact step_keeps (D := True) (fun h => h.keeps_directoryLaw trivial) (fun _ => hs.1) hstep hs

/-! ### What a write does to the records -/

/-- The blocks that a write adds to its capture: one at a block boundary, none elsewhere. -/
structure WriteGrant (s u : State) (c c' : Capture) (blocks : List Nat) : Prop where
  record : c' = { c with chain := c.chain ++ blocks }
  cells : u.memory.cells = s.memory.cells
  drain : ∀ d, u.drain d = s.drain d
  captures : u.captures = s.captures.map (fun x => if x.slot = c.slot then { x with chain := x.chain ++ blocks } else x)
  blocks : (c.bytesWritten % Config.blockSize ≠ 0 ∧ blocks = [] ∧ u.memory.freePool = s.memory.freePool) ∨
    (c.bytesWritten % Config.blockSize = 0 ∧ ∃ b, blocks = [b] ∧ s.memory.freePool = b :: u.memory.freePool)

theorem State.RecordsDistinct.writeGrant {s u : State} {c c' : Capture} (hs : s.RecordsDistinct)
    (hc : s.openCapture c.region = some c)
    (hu : (c.bytesWritten % Config.blockSize ≠ 0 ∧ u = s) ∨
      (c.bytesWritten % Config.blockSize = 0 ∧ s.memory.freePool ≠ [] ∧ u = s.grantBlock c.slot))
    (hc' : u.capture c.slot = some c') : ∃ blocks, WriteGrant s u c c' blocks := by
  have hmem := (State.openCapture_eq_some hc).1
  rcases hu with ⟨hinside, rfl⟩ | ⟨hboundary, hpool, rfl⟩
  · rw [hs.capture_eq hmem] at hc'
    obtain rfl := Option.some.inj hc'
    exact ⟨[], by simp, rfl, fun _ => rfl, by simp, .inl ⟨hinside, rfl, rfl⟩⟩
  · obtain ⟨b, rest, hfree, hgranted⟩ := State.grantBlock_capture hs hpool hc
    rw [hgranted] at hc'
    refine ⟨[b], (Option.some.inj hc').symm, s.grantBlock_cells _, fun d => ?_, ?_, .inr ⟨hboundary, b, rfl, ?_⟩⟩
    · cases d <;> simp [State.drain]
    · rw [s.grantBlock_of_free c.slot b rest hfree]
    · rw [s.grantBlock_of_free c.slot b rest hfree, hfree]

theorem WriteGrant.stored {s u : State} {c c' : Capture} {blocks : List Nat} (h : WriteGrant s u c c' blocks) (v : Half) :
    (u.storePixel c' v).captures = s.captures.map (fun x => if x.slot = c.slot
      then { x with chain := x.chain ++ blocks, bytesWritten := x.bytesWritten + x.bpp } else x) := by
  have hslot : c'.slot = c.slot := by rw [h.record]
  rw [State.storePixel, State.updateCapture_captures, h.captures, List.map_map, hslot]
  exact List.map_congr_left fun x _ => by by_cases hx : x.slot = c.slot <;> simp [hx]

/-! ### What can become of a record -/

/-- What one effect can make of a record `x`: it is written while it fills, it completes with every byte written, it is abandoned as the head
of a drain; its number, its geometry and its route stay. -/
structure Capture.Evolves (x y : Capture) : Prop where
  same : y = { x with
    bytesWritten := y.bytesWritten, fill := y.fill, delivery := y.delivery, chain := y.chain, bytesSent := y.bytesSent,
    abandonReason := y.abandonReason }
  written : y.bytesWritten = x.bytesWritten ∨ (x.fill = .filling ∧ y.bytesWritten = x.bytesWritten + x.bpp)
  fill : y.fill = x.fill ∨ (x.fill = .filling ∧ y.fill = .complete ∧ x.bytesWritten = x.bytesExpected ∧ y.bytesWritten = x.bytesWritten) ∨
    (x.fill = .filling ∧ x.delivery = .active ∧ y.fill = .abandoned)

theorem Capture.Evolves.of_delivery {x y : Capture} (h : x.Evolves y) (v : Delivery) : x.Evolves { y with delivery := v } := by
  obtain ⟨hsame, hwritten, hfill⟩ := h
  exact ⟨by rw [hsame], hwritten, hfill⟩

theorem Capture.Evolves.refl (x : Capture) : x.Evolves x := ⟨rfl, .inl rfl, .inl rfl⟩

theorem State.RecordsDistinct.evolves_of_update {s : State} (hs : s.RecordsDistinct) {c : Capture} (hmem : c ∈ s.captures)
    {f : Capture → Capture} (hf : c.Evolves (f c)) :
    ∀ y ∈ s.captures.map (fun x => if x.slot = c.slot then f x else x), ∃ x ∈ s.captures, x.Evolves y := by
  intro y hy
  obtain ⟨x, hx, rfl⟩ := List.mem_map.mp hy
  refine ⟨x, hx, ?_⟩
  by_cases hslot : x.slot = c.slot
  · obtain rfl := hs.eq_of_slot hmem hx hslot
    simpa using hf
  · simpa [hslot] using Capture.Evolves.refl x

/-- Every record that an effect leaves was there before, or has just been opened. -/
theorem Effect.records {s t : State} (hD : D) (h : Effect D ph s t) (hs : s.RecordsDistinct) :
    ∀ y ∈ t.captures, (∃ x ∈ s.captures, x.Evolves y) ∨
      (∃ slot ∈ s.freeRecords, ∃ r seq d, y = openedCapture slot r seq s.framer.frameNumber d s.framer.depth.bpp) := by
  have stays : ∀ {t : State}, (∀ y ∈ t.captures, y ∈ s.captures) → ∀ y ∈ t.captures, ∃ x ∈ s.captures, x.Evolves y :=
    fun hsub y hy => ⟨y, hsub y hy, .refl y⟩
  have promoted : ∀ {u t : State}, u.Promotes t → (∀ y ∈ u.captures, ∃ x ∈ s.captures, x.Evolves y) →
      ∀ y ∈ t.captures, ∃ x ∈ s.captures, x.Evolves y := by
    rintro u t ⟨-, f, hf, hcases⟩ hu y hy
    rw [hf] at hy
    obtain ⟨x, hx, rfl⟩ := List.mem_map.mp hy
    obtain ⟨w, hw, hev⟩ := hu x hx
    refine ⟨w, hw, ?_⟩
    rcases hcases x with heq | ⟨heq, -⟩ <;> rw [heq]
    · exact hev
    · exact hev.of_delivery _
  by_cases hopen : ∃ slot ∈ s.freeRecords, ∃ r seq d, t =
      { s with captures := s.captures ++ [openedCapture slot r seq s.framer.frameNumber d s.framer.depth.bpp] }
  · obtain ⟨slot, hslot, r, seq, d, rfl⟩ := hopen
    intro y hy
    rcases List.mem_append.mp hy with hy | hy
    · exact .inl ⟨y, hy, .refl y⟩
    · exact .inr ⟨slot, hslot, r, seq, d, List.mem_singleton.mp hy⟩
  · refine fun y hy => .inl ?_
    revert y
    cases h with
    | opens slot r seq d hslot => exact absurd ⟨slot, hslot, r, seq, d, rfl⟩ hopen
    | quiet h => exact stays fun y hy => h.captures ▸ hy
    | astray hD' => exact absurd hD hD'
    | adjust d y h => exact stays fun y hy => by simpa using hy
    | free c hw hc => exact stays fun y hy => (List.mem_filter.mp hy).1
    | mark c reason ha hc =>
      obtain ⟨hmem, -, hfill⟩ := State.openCapture_eq_some (hc hD)
      exact hs.evolves_of_update hmem ⟨rfl, .inl rfl, .inr (.inr ⟨hfill, ha, rfl⟩)⟩
    | fill c hc hb =>
      obtain ⟨hmem, -, hfill⟩ := State.openCapture_eq_some hc
      exact hs.evolves_of_update hmem ⟨rfl, .inl rfl, .inr (.inl ⟨hfill, rfl, hb, rfl⟩)⟩
    | fetch c hc hl hw => exact hs.evolves_of_update hc ⟨rfl, .inl rfl, .inl rfl⟩
    | promote d h => exact promoted (s.promote_promotes d) (stays fun _ hy => hy)
    | endHead d reason st h hst =>
      refine stays fun y hy => ?_
      rw [State.endHead_captures] at hy
      split at hy
      · exact hy
      · exact (List.mem_filter.mp hy).1
    | send d c k hc =>
      have hmem := (State.head_mem hc).1
      rw [State.sendDataWord_eq]
      split
      · exact hs.evolves_of_update hmem ⟨rfl, .inl rfl, .inl rfl⟩
      · exact hs.evolves_of_update hmem ⟨rfl, .inl rfl, .inl rfl⟩
    | lastTake d c hc hq => exact promoted (State.moveOn_promotes _ d) (stays fun y hy => (List.mem_filter.mp hy).1)
    | @write s u c c' v hc hu hc' =>
      obtain ⟨hmem, -, hfill⟩ := State.openCapture_eq_some (hc hD)
      obtain ⟨blocks, hgrant⟩ := hs.writeGrant (hc hD) hu (hc' hD)
      refine promoted (State.tellDrainOfWrite_promotes _ _) ?_
      rw [hgrant.stored v]
      exact hs.evolves_of_update hmem ⟨rfl, .inr ⟨hfill, rfl⟩, .inl rfl⟩
    | release c hc hl ha => exact stays fun y hy => (List.mem_filter.mp hy).1
    | returned hm hc hA hB =>
      intro y hy
      rw [hc] at hy
      obtain ⟨x, hx, rfl⟩ := List.mem_map.mp hy
      refine ⟨x, hx, ?_⟩
      unfold Capture.returned
      split
      · exact ⟨rfl, .inl rfl, .inl rfl⟩
      · exact .refl x
    | reset cause => exact fun y hy => absurd hy List.not_mem_nil

/-! ### COMPLETE records and whole pixels -/

theorem Depth.bpp_eq (d : Depth) : d.bpp = 1 ∨ d.bpp = 2 := by
  cases d <;> simp [Depth.bpp]

theorem Capture.Evolves.keeps_complete {x y : Capture} (h : x.Evolves y)
    (hx : x.fill = .complete → x.bytesWritten = x.bytesExpected) : y.fill = .complete → y.bytesWritten = y.bytesExpected := by
  intro hy
  have hexpected : y.bytesExpected = x.bytesExpected := by rw [h.same]
  rcases h.fill with heq | ⟨-, -, hb, hw⟩ | ⟨-, -, heq⟩
  · rw [heq] at hy
    rcases h.written with hw | ⟨hfill, -⟩
    · rw [hw, hexpected, hx hy]
    · rw [hy] at hfill; cases hfill
  · rw [hw, hexpected, hb]
  · rw [heq] at hy; cases hy

/-- The bytes of a record come by whole pixels of one or two bytes. -/
def Capture.WholePixels (c : Capture) : Prop := c.bpp = 1 ∨ (c.bpp = 2 ∧ c.bytesWritten % 2 = 0)

theorem Capture.Evolves.keeps_wholePixels {x y : Capture} (h : x.Evolves y) (hx : x.WholePixels) : y.WholePixels := by
  have hbpp : y.bpp = x.bpp := by rw [h.same]
  rw [Capture.WholePixels, hbpp]
  rcases hx with hp | ⟨hp, hmod⟩
  · exact .inl hp
  · refine .inr ⟨hp, ?_⟩
    rcases h.written with hw | ⟨-, hw⟩ <;> rw [hw]
    · exact hmod
    · omega

theorem Effect.keeps_wholePixels {s t : State} (hD : D) (h : Effect D ph s t) (hs : s.RecordsDistinct) (hw : s.WholePixels) :
    t.WholePixels := by
  intro y hy
  rcases h.records hD hs y hy with ⟨x, hx, hev⟩ | ⟨slot, -, r, seq, d, rfl⟩
  · exact hev.keeps_wholePixels (hw x hx)
  · exact (Depth.bpp_eq _).imp id fun h => ⟨h, rfl⟩

theorem Effect.keeps_completeIsWritten {s t : State} (hD : D) (h : Effect D ph s t) (hs : s.RecordsDistinct)
    (hw : s.CompleteIsWritten) : t.CompleteIsWritten := by
  intro y hy hfill
  rcases h.records hD hs y hy with ⟨x, hx, hev⟩ | ⟨slot, -, r, seq, d, rfl⟩
  · exact hev.keeps_complete (hw x hx) hfill
  · cases hfill

/-! ### The chains of link captures -/

theorem ceilDiv_of_boundary {n b : Nat} (hn : n % 512 = 0) (hb : b = 1 ∨ b = 2) : ceilDiv (n + b) 512 = ceilDiv n 512 + 1 := by
  unfold ceilDiv
  omega

theorem ceilDiv_within_block {n b : Nat} (hn : n % 512 ≠ 0) (hb : b = 1 ∨ (b = 2 ∧ n % 2 = 0)) : ceilDiv (n + b) 512 = ceilDiv n 512 := by
  unfold ceilDiv
  omega

/-- The chain and the bytes sent of a link capture. -/
def Capture.LinkChain (c : Capture) : Prop := c.route = .link → c.bytesSent = 0 ∧ c.chain.length = ceilDiv c.bytesWritten Config.blockSize

theorem forall_map_update {P : Capture → Prop} {l : List Capture} {n : Nat} {f : Capture → Capture} (hl : ∀ x ∈ l, P x)
    (hf : ∀ x ∈ l, x.slot = n → P (f x)) : ∀ y ∈ l.map (fun x => if x.slot = n then f x else x), P y := by
  intro y hy
  obtain ⟨x, hx, rfl⟩ := List.mem_map.mp hy
  split
  · exact hf x hx ‹_›
  · exact hl x hx

theorem forall_of_promotes {P : Capture → Prop} {s t : State} (h : s.Promotes t) (hs : ∀ x ∈ s.captures, P x)
    (hP : ∀ x : Capture, P x → P { x with delivery := .active }) : ∀ y ∈ t.captures, P y := by
  obtain ⟨-, f, hf, hcases⟩ := h
  intro y hy
  rw [hf] at hy
  obtain ⟨x, hx, rfl⟩ := List.mem_map.mp hy
  rcases hcases x with heq | ⟨heq, -⟩ <;> rw [heq]
  · exact hs x hx
  · exact hP x (hs x hx)

theorem Effect.keeps_linkChain {s t : State} (hD : D) (h : Effect D ph s t) (hs : s.DirectoryLaw) (hw : s.WholePixels)
    (hl : ∀ c ∈ s.captures, c.LinkChain) : ∀ c ∈ t.captures, c.LinkChain := by
  have hdistinct := hs.1
  have hrouted := State.queuesRouted_iff.mp hs.2.2
  have freed : ∀ n, ∀ c ∈ s.captures.filter (fun x => x.slot ≠ n), c.LinkChain := fun n c hc => hl c (List.mem_filter.mp hc).1
  have drained : ∀ {c : Capture} {d : DrainId} {f : Capture → Capture}, c ∈ s.captures → c.route = .drain d →
      (∀ x, (f x).route = x.route) → ∀ x ∈ s.captures, x.slot = c.slot → (f x).LinkChain := by
    intro c d f hc hr hf x hx hslot hlink
    obtain rfl := hdistinct.eq_of_slot hc hx hslot
    rw [hf, hr] at hlink
    cases hlink
  cases h with
  | quiet h => rwa [h.captures]
  | astray hD' => exact absurd hD hD'
  | adjust d y h => simpa using hl
  | free c hw hc => exact freed c.slot
  | mark c reason ha hc =>
    obtain ⟨hmem, -, hfill⟩ := State.openCapture_eq_some (hc hD)
    have hlegal := hs.2.1 c hmem
    cases hr : c.route with
    | link => simp [Capture.legal, hfill, ha, hr] at hlegal
    | drain d => exact forall_map_update hl (drained hmem hr fun _ => rfl)
  | fill c hc hb => exact forall_map_update hl fun x hx _ => hl x hx
  | fetch c hc hl' hw => exact forall_map_update hl fun x hx _ => hl x hx
  | promote d h => exact forall_of_promotes (s.promote_promotes d) hl fun _ hx => hx
  | endHead d reason st h hst =>
    rw [State.endHead_captures]
    split
    · exact hl
    · exact freed _
  | send d c k hc =>
    obtain ⟨hmem, hhead⟩ := State.head_mem hc
    obtain ⟨x, hx, hslot, hr⟩ := hrouted d c.slot (List.mem_of_head? hhead)
    obtain rfl := hdistinct.eq_of_slot hmem hx hslot
    rw [State.sendDataWord_eq]
    split
    · exact forall_map_update hl (drained hmem hr fun _ => rfl)
    · exact forall_map_update hl (drained hmem hr fun _ => rfl)
  | lastTake d c hc hq => exact forall_of_promotes (State.moveOn_promotes _ d) (freed c.slot) fun _ hx => hx
  | @write s u c c' v hc hu hc' =>
    obtain ⟨hmem, -, hfill⟩ := State.openCapture_eq_some (hc hD)
    obtain ⟨blocks, hgrant⟩ := hdistinct.writeGrant (hc hD) hu (hc' hD)
    refine forall_of_promotes (State.tellDrainOfWrite_promotes _ _) ?_ fun _ hx => hx
    rw [hgrant.stored v]
    refine forall_map_update hl fun x hx hslot hlink => ?_
    obtain rfl := hdistinct.eq_of_slot hmem hx hslot
    obtain ⟨hsent, hlen⟩ := hl _ hx hlink
    refine ⟨hsent, ?_⟩
    rw [List.length_append, hlen]
    rcases hgrant.blocks with ⟨hinside, rfl, -⟩ | ⟨hboundary, b, rfl, -⟩
    · exact (ceilDiv_within_block hinside (hw _ hx)).symm
    · exact (ceilDiv_of_boundary hboundary ((hw _ hx).imp id And.left)).symm
  | opens slot r seq d hslot =>
    intro c hc
    rcases List.mem_append.mp hc with hc | hc
    · exact hl c hc
    · rw [List.mem_singleton.mp hc]
      exact fun _ => ⟨rfl, by simp [openedCapture, ceilDiv, Config.blockSize]⟩
  | release c hc hl' ha => exact freed c.slot
  | returned hm hc hA hB =>
    intro y hy
    rw [hc] at hy
    obtain ⟨x, hx, rfl⟩ := List.mem_map.mp hy
    unfold Capture.returned
    split
    · exact hl x hx
    · exact hl x hx
  | reset cause => exact fun y hy => absurd hy List.not_mem_nil

/-- Settles O54: a record is written only while it fills, completes only when all its bytes are written, and takes a block exactly at a
block boundary. -/
theorem stepsKeepCompleteCapturesWritten : Obligations.StepsKeepCompleteCapturesWritten := by
  unfold Obligations.StepsKeepCompleteCapturesWritten
  refine ⟨fun s t hdistinct hcomplete hwhole hstep => ?written, fun s t hdir hwhole hlink hstep => ?chains⟩
  case written =>
    exact (step_keeps (D := True) (P := fun s => s.RecordsDistinct ∧ s.CompleteIsWritten ∧ s.WholePixels)
      (fun h ⟨hs, hc, hw⟩ => ⟨h.keeps_recordsDistinct hs, h.keeps_completeIsWritten trivial hs hc, h.keeps_wholePixels trivial hs hw⟩)
      (fun _ => hdistinct) hstep ⟨hdistinct, hcomplete, hwhole⟩).2
  case chains =>
    exact (step_keeps (D := True) (P := fun s => s.DirectoryLaw ∧ s.WholePixels ∧ s.LinkChainLaw)
      (fun h ⟨hs, hw, hl⟩ => ⟨h.keeps_directoryLaw trivial hs, h.keeps_wholePixels trivial hs.1 hw, h.keeps_linkChain trivial hs hw hl⟩)
      (fun _ => hdir.1) hstep ⟨hdir, hwhole, hlink⟩).2.2

end Sys2Proof.Machine
end

section
/-! SUPPORT. What the operations on captures and drains leave of the Region Table and do to the Link Controller, and the laws of the notice
set and of the link's queues. -/

namespace Sys2Proof.Machine

/-! ### Operations that raise notices and keep the definitions -/

/-- Notices have been raised from `l` to `l'`, and nothing else has been done to the link. -/
abbrev Link.Raised (l l' : Link) : Prop := ∃ ns : List Notice, l' = ns.foldl Link.raise l

theorem Link.Raised.refl (l : Link) : l.Raised l := ⟨[], rfl⟩

theorem Link.Raised.trans {l l' l'' : Link} (h : l.Raised l') (h' : l'.Raised l'') : l.Raised l'' := by
  obtain ⟨ns, rfl⟩ := h
  obtain ⟨ms, rfl⟩ := h'
  exact ⟨ns ++ ms, by rw [List.foldl_append]⟩

theorem Link.Raised.raise (l : Link) (n : Notice) : l.Raised (l.raise n) := ⟨[n], rfl⟩

theorem Link.Raised.replies_eq {l l' : Link} (h : l.Raised l') : l'.replies = l.replies := by
  obtain ⟨ns, rfl⟩ := h
  exact foldl_keeps _ Link.replies (fun l n => by simp) _ _

/-- From `s` to `t` notices may have been raised; the table keeps its staged copy, its flag, every active definition, and which entries are
UNUSED. -/
structure State.Raises (s t : State) : Prop where
  link : s.link.Raised t.link
  staged : t.table.staged = s.table.staged
  commitPending : t.table.commitPending = s.table.commitPending
  definition : ∀ r, (t.entry r).definition = (s.entry r).definition
  unused : ∀ r, (t.entry r).run = .unused ↔ (s.entry r).run = .unused

namespace State.Raises

theorem of_same {s t : State} (hl : t.link = s.link) (ht : t.table = s.table) : s.Raises t :=
  ⟨⟨[], hl⟩, by rw [ht], by rw [ht], fun r => by rw [State.entry, ht]; rfl, fun r => by rw [State.entry, ht]; rfl⟩

theorem refl (s : State) : s.Raises s := of_same rfl rfl

theorem trans {s t u : State} (h : s.Raises t) (h' : t.Raises u) : s.Raises u :=
  ⟨h.link.trans h'.link, h'.staged.trans h.staged, h'.commitPending.trans h.commitPending,
    fun r => (h'.definition r).trans (h.definition r), fun r => (h'.unused r).trans (h.unused r)⟩

theorem raise (s : State) (n : Notice) : s.Raises (s.raise n) := ⟨⟨[n], rfl⟩, rfl, rfl, fun _ => rfl, fun _ => .rfl⟩

theorem setEntry (s : State) (r : RegionId) (e : ActiveEntry) (hd : e.definition = (s.entry r).definition)
    (hr : e.run = .unused ↔ (s.entry r).run = .unused) : s.Raises (s.setEntry r e) := by
  refine ⟨⟨[], rfl⟩, rfl, rfl, fun x => ?_, fun x => ?_⟩
  all_goals
    by_cases hx : x = r
    · subst hx; rwa [State.setEntry_entry_same]
    · rw [State.setEntry_entry_other _ _ hx]

theorem chargeLoss (s : State) (r : RegionId) (reason : LossReason) : s.Raises (s.chargeLoss r reason) :=
  (setEntry s r { s.entry r with lost := satInc (s.entry r).lost } rfl .rfl).trans (raise _ _)

theorem discard (s : State) (c : Capture) : s.Raises (s.discard c) :=
  (of_same (s := s) (t := s.freeCapture c) rfl rfl).trans (chargeLoss _ _ _)

theorem foldl {α : Type} {f : State → α → State} (h : ∀ (s : State) (a : α), s.Raises (f s a)) (l : List α) (s : State) : s.Raises (l.foldl f s) :=
  foldl_keeps_prop (State.Raises s) f (fun _ a hs => hs.trans (h _ a)) l s (refl s)

theorem requestBlock (r : RegionId) (slot : Nat) (cs : List Capture) (s : State) : s.Raises (State.requestBlock r slot cs s).1 :=
  State.requestBlock_keeps (State.Raises s) r slot (fun _ hs => hs.trans (of_same (by simp) (by simp)))
    (fun _ c hs => hs.trans (discard _ c)) cs s (refl s)

theorem makeRoom (r : RegionId) (depth : Nat) (cs : List Capture) (s : State) : s.Raises (State.makeRoom r depth cs s) :=
  State.makeRoom_keeps (State.Raises s) r depth (fun _ c hs => hs.trans (discard _ c)) cs s (refl s)

theorem evaluateIfLow (s : State) (d : DrainId) : s.Raises (s.evaluateIfLow d) := of_same (by simp) (by simp)

theorem tellDrainOfWrite (s : State) (c : Capture) : s.Raises (s.tellDrainOfWrite c) := by
  rcases s.tellDrainOfWrite_cases c with ⟨d, -, -, heq⟩ | ⟨-, d, y, -, heq⟩ <;> rw [heq]
  · exact of_same (by simp) (by simp)
  · exact of_same (by simp) (by simp)

theorem abandon (s : State) (c : Capture) (reason : LossReason) : s.Raises (s.abandon c reason) := by
  have hcharged := (of_same (s := s) (t := (s.returnBlocks c.chain).updateCapture c.slot (fun x => { x with chain := [] })) rfl rfl).trans
    (chargeLoss _ c.region reason)
  unfold State.abandon
  refine hcharged.trans ?_
  split
  · exact of_same rfl rfl
  · split
    · exact of_same (by simp) (by simp)
    · exact of_same rfl rfl

theorem abandonOpen (s : State) (reason : LossReason) (r : RegionId) : s.Raises (s.abandonOpen reason r) := by
  unfold State.abandonOpen
  split
  · exact refl s
  · exact abandon _ _ _

theorem abandonAll (s : State) (reason : LossReason) : s.Raises (s.abandonAll reason) := foldl (fun s r => abandonOpen s reason r) _ s

theorem writePixel (s : State) (r : RegionId) (v : Half) : s.Raises (s.writePixel r v) := by
  have hasked := fun c : Capture => requestBlock r c.slot (s.discardable r) s
  have hwritten : ∀ (u : State) (c : Capture), u.Raises ((u.storePixel c v).tellDrainOfWrite c) :=
    fun u c => (of_same (s := u) (t := u.storePixel c v) rfl rfl).trans (tellDrainOfWrite _ c)
  unfold State.writePixel
  split
  · exact refl s
  · rename_i c _
    split
    · dsimp only
      split
      · split
        · exact (hasked c).trans (hwritten _ _)
        · exact hasked c
      · exact (hasked c).trans (abandon _ _ _)
    · exact hwritten s c

theorem serveRegion (x y : Nat) (v : Half) (s : State) (r : RegionId) : s.Raises (State.serveRegion x y v s r) := by
  unfold State.serveRegion
  split
  · exact writePixel s r v
  · exact refl s

theorem serveRegions (x y : Nat) (v : Half) (asked : Bool) (l : List RegionId) (s : State) :
    s.Raises (State.serveRegions x y v asked l s) := by
  obtain ⟨k, -, heq⟩ := State.serveRegions_split x y v asked l s
  rw [heq]
  exact (foldl (serveRegion x y v) _ s).trans (of_same rfl rfl)

theorem servePixel (s : State) : s.Raises s.servePixel := by
  unfold State.servePixel
  split
  · exact refl s
  · exact serveRegions _ _ _ _ _ s

theorem finishPixel (s : State) : s.Raises s.finishPixel := by
  unfold State.finishPixel
  split
  · exact refl s
  · exact (foldl (serveRegion _ _ _) _ s).trans (of_same rfl rfl)

theorem finishCount (s : State) (r : RegionId) : s.Raises (s.finishCount r) := by
  unfold State.finishCount
  split
  · rename_i hreached
    refine (setEntry s r { s.entry r with run := .done } rfl ?_).trans (raise _ _)
    unfold ActiveEntry.reachedCount at hreached
    split at hreached <;> simp_all
  · exact refl s

theorem completedOne_same (e : ActiveEntry) : e.completedOne.definition = e.definition ∧ e.completedOne.run = e.run := by
  unfold ActiveEntry.completedOne
  split <;> simp

theorem complete (s : State) (c : Capture) : s.Raises (s.complete c) := by
  have hannounced : ∀ u : State, u.Raises (u.announceCompletion c) := by
    intro u
    unfold State.announceCompletion
    split
    · exact raise _ _
    · split
      · exact evaluateIfLow _ _
      · exact refl u
  unfold State.complete
  refine ((of_same (s := s) (t := s.updateCapture c.slot (fun x => { x with fill := .complete })) rfl rfl).trans
    ((setEntry _ c.region _ ?_ ?_).trans (hannounced _))).trans (finishCount _ _)
  · exact (completedOne_same _).1
  · rw [(completedOne_same _).2]

theorem rowEnd (s : State) (row : Nat) : s.Raises (s.rowEnd row) := by
  refine foldl (fun s r => ?_) _ s
  unfold State.rowEndOf
  split
  · exact refl s
  · split
    · exact complete _ _
    · exact refl s

theorem openDue (s : State) (r : RegionId) (d : RegionDef) : s.Raises (s.openDue r d) := by
  have hopen : ∀ (u : State) (seq : Half),
      u.Raises (if u.completeCount r < d.depth then u.openRecord r d seq else u.chargeLoss r .depth) := by
    intro u seq
    unfold State.openRecord
    (repeat' split)
    · exact chargeLoss _ _ _
    · exact of_same rfl rfl
    · exact chargeLoss _ _ _
  have hroom : ∀ n : State, n.Raises (if d.policy = .keepNew then State.makeRoom r d.depth (n.candidates r) n else n) := by
    intro n
    split
    · exact makeRoom _ _ _ _
    · exact refl n
  unfold State.openDue
  exact ((setEntry s r { s.entry r with nextSeq := (s.entry r).nextSeq + 1 } rfl .rfl).trans (hroom _)).trans (hopen _ _)

theorem evaluateRegion (s : State) (r : RegionId) : s.Raises (s.evaluateRegion r) := by
  unfold State.evaluateRegion
  dsimp only
  split
  · exact refl s
  · split
    · split
      · split
        · rename_i d _ _ _ _
          exact (setEntry s r { s.entry r with phase := d.stride - 1 } rfl .rfl).trans (openDue _ _ _)
        · rename_i d _ _ _ _
          exact setEntry s r { s.entry r with phase := d.stride - 1 } rfl .rfl
      · exact setEntry s r { s.entry r with phase := (s.entry r).phase - 1 } rfl .rfl
    · exact refl s

theorem evaluateDue (s : State) : s.Raises s.evaluateDue := foldl evaluateRegion _ s

theorem enterSkipping (s : State) (reason : LossReason) (event : InputEvent) : s.Raises (s.enterSkipping reason event) := by
  have habandoned := abandonAll s reason
  unfold State.enterSkipping
  generalize s.abandonAll reason = u at habandoned ⊢
  exact (habandoned.trans (raise u (.input event u.framer.frameNumber))).trans (of_same rfl rfl)

theorem countError (s : State) (event : InputEvent) : s.Raises (s.countError event) := of_same rfl rfl

theorem takeLineStart (s : State) : s.Raises s.takeLineStart := by
  unfold State.takeLineStart
  split
  · split
    · exact of_same rfl rfl
    · exact (countError s _).trans (enterSkipping _ _ _)
  · split
    · exact (countError s _).trans (raise _ _)
    · exact refl s
  · exact refl s
  · exact refl s

theorem takeLineEnd (s : State) : s.Raises s.takeLineEnd := by
  have hrow := rowEnd s s.framer.linesDone
  unfold State.takeLineEnd
  generalize s.rowEnd s.framer.linesDone = u at hrow ⊢
  split
  · split
    · exact (countError s _).trans (enterSkipping _ _ _)
    · exact hrow.trans (of_same rfl rfl)
  · exact refl s
  · exact refl s
  · exact refl s

theorem takePixel (s : State) (pd : PixelLines) : s.Raises (s.takePixel pd) := by
  have hcounted : ∀ f : Framer, s.Raises { s with framer := f } := fun f => of_same rfl rfl
  unfold State.takePixel
  split
  · dsimp only
    split
    · exact (hcounted _).trans (serveRegions _ _ _ _ _ _)
    · exact (hcounted _).trans ((countError _ _).trans (enterSkipping _ _ _))
  · exact refl s
  · exact refl s
  · exact refl s

theorem endHead (s : State) (d : DrainId) (reason : LossReason) (st : DrainState) : s.Raises (s.endHead d reason st) := by
  unfold State.endHead
  split
  · exact of_same (by simp) (by simp)
  · rename_i c _
    refine State.Raises.trans (t := if c.fill = .abandoned then s.freeCapture c else (s.freeCapture c).chargeLoss c.region reason) ?_
      (of_same (by simp) (by simp))
    split
    · exact of_same rfl rfl
    · exact (of_same (s := s) (t := s.freeCapture c) rfl rfl).trans (chargeLoss _ _ _)

theorem acceptTake (s : State) (d : DrainId) (c : Capture) (p : Position) : s.Raises (s.acceptTake d c p) := by
  have hsend : ∀ k, (s.sendDataWord c k).link = s.link ∧ (s.sendDataWord c k).table = s.table := by
    intro k
    rw [State.sendDataWord_eq]
    split <;> exact ⟨rfl, rfl⟩
  have hmove : ∀ u : State, (u.moveOn d).link = u.link ∧ (u.moveOn d).table = u.table := by
    intro u
    unfold State.moveOn
    (repeat' split) <;> simp
  by_cases hp : p = .trailer 1
  · subst hp
    exact of_same ((hmove _).1.trans (by simp)) ((hmove _).2.trans (by simp))
  · rw [s.acceptTake_of_ne d c hp]
    dsimp only
    cases p <;> split <;> exact of_same (by simp [hsend]) (by simp [hsend])

theorem enableDrain {s t : State} {d : DrainId} {p : List Byte} (h : s.enableDrain d p = some t) : s.Raises t := by
  unfold State.enableDrain at h
  dsimp only at h
  (repeat' split at h) <;> cases h <;> exact of_same (by simp) (by simp)

theorem disableDrain {s t : State} {d : DrainId} {p : List Byte} (h : s.disableDrain d p = some t) : s.Raises t := by
  unfold State.disableDrain at h
  split at h <;> cases h <;> exact of_same (by simp) (by simp)

theorem abortDrain {s t : State} {d : DrainId} {p : List Byte} (h : s.abortDrain d p = some t) : s.Raises t := by
  unfold State.abortDrain at h
  split at h <;> cases h
  · exact endHead _ _ _ _
  · exact endHead _ _ _ _
  · exact of_same (by simp) (by simp)
  · exact of_same (by simp) (by simp)
  · exact refl s

theorem setDrainWith {effect : State → DrainId → List Byte → Option State}
    (heffect : ∀ {s t : State} {d : DrainId} {p : List Byte}, effect s d p = some t → s.Raises t) (s : State) (p : List Byte) :
    s.Raises (s.setDrainWith effect p).1 := by
  unfold State.setDrainWith
  split
  · exact refl s
  · exact refl s
  · split
    · exact refl s
    · rename_i h; exact heffect h

theorem execTake {s t : State} {d : DrainId} (h : execTake d s = .next t) : s.Raises t := by
  unfold Machine.execTake at h
  split at h
  · cases h; exact of_same (by simp) (by simp)
  · split at h <;> cases h
    · exact acceptTake _ _ _ _
    · exact refl s

theorem execStallTimerExpiry {s t : State} {d : DrainId} (h : execStallTimerExpiry d s = .next t) : s.Raises t := by
  unfold Machine.execStallTimerExpiry at h
  split at h <;> cases h
  · exact (endHead _ _ _ _).trans (raise _ _)
  · exact refl s

theorem haltRegion (s : State) (p : List Byte) : s.Raises (s.haltRegion p).1 := by
  unfold State.haltRegion
  split
  · exact refl s
  · split
    · rename_i r _ harmed
      exact (setEntry s r { s.entry r with run := .halted } rfl (by simp [harmed])).trans (abandonOpen _ _ _)
    · exact refl s

theorem fetch (s : State) (p : List Byte) : s.Raises (s.fetch p).1 := by
  unfold State.fetch
  (repeat' split) <;> exact of_same rfl rfl

theorem release (s : State) (p : List Byte) : s.Raises (s.release p).1 := by
  unfold State.release
  (repeat' split) <;> exact of_same rfl rfl

theorem flush (s : State) (p : List Byte) : s.Raises (s.flush p).1 := by
  unfold State.flush
  split
  · exact refl s
  · exact foldl discard _ s

end State.Raises

end Sys2Proof.Machine
end

section
/-! SUPPORT. What a command does to the Link Controller, in a few kinds of change, and the laws of the notice set and of the link's queues
along them (O55). -/

namespace Sys2Proof.Machine

/-! ### The changes of the Link Controller -/

/-- One change of the Link Controller: of the fields that no law speaks of, a raise, a request accepted in a free slot, a reply entered in
a free slot as the head request leaves, a new mask, the end of a frame, an emptied link, readiness. -/
inductive LinkEffect : Link → Link → Prop
  | quiet {l l' : Link} (requests : l'.requests = l.requests) (replies : l'.replies = l.replies) (notices : l'.notices = l.notices)
      (row : l'.repliesInRow = l.repliesInRow) : LinkEffect l l'
  | raise (l : Link) (n : Notice) : LinkEffect l (l.raise n)
  | accept (l : Link) (q : Request) (room : l.requests.length < Config.requestSlots) :
      LinkEffect l { l with receiver := .hunt, requests := l.requests ++ [q] }
  | reply (l : Link) (stored : Option StoredReply) (r : Reply) (room : l.replies.length < Config.replySlots) :
      LinkEffect l (({ l with requests := l.requests.tail, lastReply := stored } : Link).enterReply r)
  | remask (l : Link) (mask : Vector NoticeSetting 7) : LinkEffect l (l.setMask mask)
  | replySent (l : Link) : LinkEffect l l.replySent
  | noticeSent (l : Link) : LinkEffect l l.noticeSent
  | emptied {l l' : Link} (requests : l'.requests = []) (notices : l'.notices = [])
      (replies : l'.replies = l.replies ∧ l'.repliesInRow = l.repliesInRow ∨ l'.replies = [] ∧ l'.repliesInRow = 0) : LinkEffect l l'
  | ready (l : Link) (baud : BitVec 2) (rxd : Level) (cause : ResetCause) : LinkEffect l (Link.atReadiness baud rxd cause)

/-- A run of such changes. -/
def LinkEffects : Link → Link → Prop := Relation.ReflTransGen LinkEffect

theorem LinkEffects.refl {l : Link} : LinkEffects l l := Relation.ReflTransGen.refl

theorem LinkEffects.of_eq {l l' : Link} (h : l' = l) : LinkEffects l l' := h ▸ .refl

theorem LinkEffects.trans {l l' l'' : Link} (h : LinkEffects l l') (h' : LinkEffects l' l'') : LinkEffects l l'' :=
  Relation.ReflTransGen.trans h h'

theorem LinkEffect.run {l l' : Link} (h : LinkEffect l l') : LinkEffects l l' := Relation.ReflTransGen.single h

theorem LinkEffects.quiet {l l' : Link} (requests : l'.requests = l.requests) (replies : l'.replies = l.replies)
    (notices : l'.notices = l.notices) (row : l'.repliesInRow = l.repliesInRow) : LinkEffects l l' :=
  (LinkEffect.quiet requests replies notices row).run

theorem LinkEffects.emptied {l l' : Link} (requests : l'.requests = []) (notices : l'.notices = [])
    (replies : l'.replies = l.replies ∧ l'.repliesInRow = l.repliesInRow ∨ l'.replies = [] ∧ l'.repliesInRow = 0) : LinkEffects l l' :=
  (LinkEffect.emptied requests notices replies).run

/-- What every change keeps, a run keeps. -/
theorem LinkEffects.keeps {P : Link → Prop} (h : ∀ {l l'}, LinkEffect l l' → P l → P l') {l l' : Link} (hr : LinkEffects l l') (hl : P l) :
    P l' := by
  induction hr with
  | refl => exact hl
  | tail _ he ih => exact h he ih

theorem Link.Raised.effects {l l' : Link} (h : l.Raised l') : LinkEffects l l' := by
  obtain ⟨ns, rfl⟩ := h
  induction ns generalizing l with
  | nil => exact .refl
  | cons n ns ih => exact (LinkEffect.raise l n).run.trans ih

/-! ### The laws along a change -/

theorem Link.NoticesDistinct.arbitrate {l : Link} (h : l.notices.Pairwise (fun x y => sameKey x y = false)) :
    l.arbitrate.notices.Pairwise (fun x y => sameKey x y = false) := by
  rcases l.arbitrate_notices with h' | h' <;> rw [h']
  · exact h
  · exact h.tail

theorem sameKey_updatedBy_right (e n m : Notice) : sameKey m (e.updatedBy n) = sameKey m e := by
  cases e <;> cases n <;> cases m <;> rfl

/-- A raise keeps one entry for each kind and key: an update keeps its kind and key, and a new entry comes only where none has its. -/
theorem Link.NoticesDistinct.raise {l : Link} (n : Notice) (h : l.notices.Pairwise (fun x y => sameKey x y = false)) :
    (l.raise n).notices.Pairwise (fun x y => sameKey x y = false) := by
  rcases l.raise_cases n with ⟨-, heq⟩ | ⟨-, -, -, heq⟩ | ⟨-, -, hnone, heq⟩ <;> rw [heq]
  · exact h
  · refine List.Pairwise.map (fun e => if sameKey e n then e.updatedBy n else e) (fun x y hxy => ?_) h
    split <;> split <;> simpa [sameKey_updatedBy, sameKey_updatedBy_right] using hxy
  · refine Link.NoticesDistinct.arbitrate ?_
    rw [List.any_eq_false] at hnone
    exact List.pairwise_append.mpr ⟨h, List.pairwise_singleton _ _, fun x hx y hy => by simp_all⟩

theorem LinkEffect.keeps_notices {l l' : Link} (h : LinkEffect l l') (hl : l.notices.Pairwise (fun x y => sameKey x y = false)) :
    l'.notices.Pairwise (fun x y => sameKey x y = false) := by
  cases h with
  | quiet _ _ hnotices _ => rwa [hnotices]
  | raise n => exact Link.NoticesDistinct.raise n hl
  | accept q _ => exact hl
  | reply stored r _ => exact Link.NoticesDistinct.arbitrate hl
  | remask mask => exact hl.filter _
  | replySent => exact Link.NoticesDistinct.arbitrate hl
  | noticeSent => exact Link.NoticesDistinct.arbitrate hl
  | emptied _ hnotices _ => rw [hnotices]; exact .nil
  | ready baud rxd cause => exact Link.NoticesDistinct.arbitrate (List.pairwise_singleton _ _)

/-- The sizes of the queues of the link. -/
def Link.Bounded (l : Link) : Prop :=
  l.requests.length ≤ Config.requestSlots ∧ l.replies.length ≤ Config.replySlots ∧ l.repliesInRow ≤ Config.repliesBeforeNotice

theorem Link.Bounded.arbitrate {l : Link} (h : l.Bounded) : l.arbitrate.Bounded := by
  obtain ⟨hrequests, hreplies, hrow⟩ := h
  exact ⟨by rwa [l.arbitrate_requests], by rwa [l.arbitrate_replies], l.arbitrate_repliesInRow_le hrow⟩

theorem Link.Bounded.raise {l : Link} (n : Notice) (h : l.Bounded) : (l.raise n).Bounded := by
  rcases l.raise_cases n with ⟨-, heq⟩ | ⟨-, -, -, heq⟩ | ⟨-, -, -, heq⟩ <;> rw [heq]
  · exact h
  · exact h
  · exact Link.Bounded.arbitrate h

theorem LinkEffect.keeps_bounded {l l' : Link} (h : LinkEffect l l') (hl : l.Bounded) : l'.Bounded := by
  obtain ⟨hrequests, hreplies, hrow⟩ := hl
  cases h with
  | quiet h1 h2 _ h4 => exact ⟨by rwa [h1], by rwa [h2], by rwa [h4]⟩
  | raise n => exact Link.Bounded.raise n ⟨hrequests, hreplies, hrow⟩
  | accept q room => exact ⟨by simpa using room, hreplies, hrow⟩
  | reply stored r room =>
    refine Link.Bounded.arbitrate ⟨?_, by simpa using room, hrow⟩
    exact (by simp : l.requests.tail.length ≤ l.requests.length).trans hrequests
  | remask mask => exact ⟨hrequests, hreplies, hrow⟩
  | replySent => exact Link.Bounded.arbitrate ⟨hrequests, (by simp : l.replies.tail.length ≤ l.replies.length).trans hreplies, hrow⟩
  | noticeSent => exact Link.Bounded.arbitrate ⟨hrequests, hreplies, hrow⟩
  | emptied h1 _ h3 =>
    rcases h3 with ⟨h3, h4⟩ | ⟨h3, h4⟩
    · exact ⟨by simp [h1], by rwa [h3], by rwa [h4]⟩
    · exact ⟨by simp [h1], by simp [h3], by simp [h4]⟩
  | ready baud rxd cause => exact Link.Bounded.arbitrate ⟨by simp [Link.reset], by simp [Link.reset], by simp [Link.reset]⟩

/-! ### What an event of the pixel port or of a drain does to the table and the link -/

/-- From `s` to `t` notices have been raised, and a pending commit may have been applied. -/
def State.Follows : State → State → Prop :=
  Relation.ReflTransGen (fun s t => s.Raises t ∨ s.table.commitPending = true ∧ t = s.applyCommit)

namespace State.Follows

theorem of_same {s t : State} (hl : t.link = s.link) (ht : t.table = s.table) : s.Follows t :=
  Relation.ReflTransGen.single (.inl (.of_same hl ht))

theorem refl (s : State) : s.Follows s := Relation.ReflTransGen.refl

theorem trans {s t u : State} (h : s.Follows t) (h' : t.Follows u) : s.Follows u := Relation.ReflTransGen.trans h h'

/-- What raises and the apply of a pending commit keep is kept. -/
theorem keeps {P : State → Prop} (hraises : ∀ {s t : State}, s.Raises t → P s → P t)
    (happly : ∀ {s : State}, s.table.commitPending = true → P s → P s.applyCommit) {s t : State} (h : s.Follows t) (hs : P s) : P t := by
  induction h with
  | refl => exact hs
  | tail _ hstep ih =>
    rcases hstep with hr | ⟨hp, rfl⟩
    · exact hraises hr ih
    · exact happly hp ih

theorem link {s t : State} (h : s.Follows t) : s.link.Raised t.link :=
  h.keeps (P := fun t => s.link.Raised t.link) (fun hr hs => hs.trans hr.link) (fun _ hs => hs.trans (.raise _ _)) (.refl _)

end State.Follows

theorem State.Raises.follows {s t : State} (h : s.Raises t) : s.Follows t := Relation.ReflTransGen.single (.inl h)

namespace State.Follows

theorem applyPending (s : State) : s.Follows s.applyPending := by
  unfold State.applyPending
  split
  · rename_i hp
    exact Relation.ReflTransGen.single (.inr ⟨hp, rfl⟩)
  · exact .refl s

theorem enterStopped (s : State) : s.Follows s.enterStopped :=
  ((of_same (s := s) (t := { s with framer := { s.framer with state := .stopped, stopPending := false }, inHand := none }) rfl rfl).trans
    (State.Raises.raise _ _).follows).trans (applyPending _)

theorem stopNow (s : State) : s.Follows s.stopNow := by
  unfold State.stopNow
  split
  · exact .refl s
  · exact enterStopped s
  · exact enterStopped s
  · exact (State.Raises.abandonAll s _).follows.trans (enterStopped _)

theorem stopAtFrameEnd (s : State) : s.Follows s.stopAtFrameEnd := by
  unfold State.stopAtFrameEnd
  split
  · exact .refl s
  · exact enterStopped s
  · exact of_same rfl rfl
  · exact of_same rfl rfl

theorem stopInputNow (s : State) (p : List Byte) : s.Follows (s.stopInputNow p).1 := by
  unfold State.stopInputNow
  split
  · exact stopNow s
  · exact .refl s

theorem stopInputFrameEnd (s : State) (p : List Byte) : s.Follows (s.stopInputFrameEnd p).1 := by
  unfold State.stopInputFrameEnd
  split
  · exact stopAtFrameEnd s
  · exact .refl s

theorem leaveFrame (s : State) : s.Follows s.leaveFrame := by
  unfold State.leaveFrame
  split
  · exact enterStopped s
  · exact of_same rfl rfl

theorem takeFrameEnd (s : State) : s.Follows s.takeFrameEnd := by
  unfold State.takeFrameEnd
  split
  · split
    · have habandoned := State.Raises.abandonAll (s.countError .frameShort) .shortFrame
      generalize (s.countError .frameShort).abandonAll .shortFrame = u at habandoned ⊢
      have hraised := habandoned.trans (.raise u (.input .frameShort u.framer.frameNumber))
      exact ((State.Raises.countError s .frameShort).trans hraised).follows.trans (leaveFrame (u.raiseInput .frameShort))
    · exact leaveFrame s
  · exact leaveFrame s
  · exact .refl s
  · exact .refl s

theorem takeFrameStart (s : State) : s.Follows s.takeFrameStart := by
  unfold State.takeFrameStart
  split
  · have hnumbered : s.Follows { s with framer := { s.framer with
        state := .inFrame, frameNumber := s.framer.frameNumber + 1, linesDone := 0, pixelCount := 0 } } := of_same rfl rfl
    exact (hnumbered.trans (applyPending _)).trans (State.Raises.evaluateDue _).follows
  · exact .refl s
  · exact .refl s
  · exact .refl s

theorem setFv (s : State) (v : Level) : s.Follows (s.setFv v) := of_same rfl rfl

theorem setLv (s : State) (v : Level) : s.Follows (s.setLv v) := of_same rfl rfl

theorem finishPixel (s : State) : s.Follows s.finishPixel := (State.Raises.finishPixel s).follows

theorem takeLineStart (s : State) : s.Follows s.takeLineStart := (State.Raises.takeLineStart s).follows

theorem takeLineEnd (s : State) : s.Follows s.takeLineEnd := (State.Raises.takeLineEnd s).follows

theorem takePixel (s : State) (pd : PixelLines) : s.Follows (s.takePixel pd) := (State.Raises.takePixel s pd).follows

/-- The events of the pixel port, the takes and the stall timer raise notices and apply a pending commit. -/
theorem exec {c : Instr} {s t : State} (h : Machine.exec c s = .next t)
    (hc : atPixelPort c = true ∨ (∃ d, c = .take d) ∨ ∃ d, c = .stallTimerExpiry d) : s.Follows t := by
  have hfinish := finishPixel s
  rcases hc with hc | ⟨d, rfl⟩ | ⟨d, rfl⟩
  · cases c <;> simp only [atPixelPort, Bool.false_eq_true] at hc
    case frameStart =>
      change execFrameStart s = .next t at h
      unfold execFrameStart at h
      dsimp only at h
      split at h
      · cases h; exact hfinish
      · split at h <;> cases h
        · exact ((hfinish.trans (setFv _ _)).trans (takeFrameStart _)).trans (takeLineStart _)
        · exact (hfinish.trans (setFv _ _)).trans (takeFrameStart _)
    case lineStart =>
      change execLineStart s = .next t at h
      unfold execLineStart at h
      dsimp only at h
      split at h <;> cases h
      · exact hfinish
      · exact (hfinish.trans (setLv _ _)).trans (takeLineStart _)
    case pixel pd =>
      change execPixel pd s = .next t at h
      unfold execPixel at h
      dsimp only at h
      split at h <;> cases h
      · exact hfinish
      · exact (hfinish.trans (setLv _ _)).trans (takePixel _ _)
    case lineEnd =>
      change execLineEnd s = .next t at h
      unfold execLineEnd at h
      dsimp only at h
      split at h <;> cases h
      · exact hfinish
      · exact (hfinish.trans (setLv _ _)).trans (takeLineEnd _)
    case frameEnd =>
      change execFrameEnd s = .next t at h
      unfold execFrameEnd at h
      dsimp only at h
      split at h
      · cases h; exact hfinish
      · split at h <;> cases h
        · exact (((hfinish.trans (setLv _ _)).trans (takeLineEnd _)).trans (setFv _ _)).trans (takeFrameEnd _)
        · exact (hfinish.trans (setFv _ _)).trans (takeFrameEnd _)
  · exact (State.Raises.execTake h).follows
  · exact (State.Raises.execStallTimerExpiry h).follows

end State.Follows

/-! ### The link under each command -/

theorem LinkEffects.replayHead {s : State} (hroom : s.link.replies.length < Config.replySlots) :
    LinkEffects s.link s.replayHead.link := by
  unfold State.replayHead
  split
  · exact .refl
  · exact (LinkEffect.reply s.link s.link.lastReply _ hroom).run

theorem LinkEffects.finish {s : State} (q : Request) (p : List Byte) (hroom : s.link.replies.length < Config.replySlots) :
    LinkEffects s.link (s.finish q p).link := (LinkEffect.reply s.link _ _ hroom).run

/-- A body that enters no reply of its own: its changes of the link, then its reply in the slot that was free. -/
theorem LinkEffects.serve {s : State} (k : ReqKind) (form : List Byte → Bool) {body : State → List Byte → State × List Byte}
    (hbody : ∀ p, LinkEffects s.link (body s p).1.link ∧ (body s p).1.link.replies = s.link.replies) :
    LinkEffects s.link (s.serve k form body).link := by
  unfold State.serve
  split
  · exact .refl
  · rename_i q rest _
    split
    · split
      · rename_i hroom
        obtain ⟨heffects, hreplies⟩ := hbody q.payload
        split
        · exact .replayHead hroom
        · split
          · exact .finish q _ hroom
          · exact heffects.trans (.finish q _ (by rwa [hreplies]))
      · exact .refl
    · exact .refl

theorem LinkEffects.serve_raised {s : State} (k : ReqKind) (form : List Byte → Bool) {body : State → List Byte → State × List Byte}
    (hbody : ∀ p, s.link.Raised (body s p).1.link) : LinkEffects s.link (s.serve k form body).link :=
  .serve k form (fun p => ⟨(hbody p).effects, (hbody p).replies_eq⟩)

theorem LinkEffects.serveUnknown (s : State) : LinkEffects s.link s.serveUnknown.link := by
  unfold State.serveUnknown
  split
  · exact .refl
  · split
    · exact .refl
    · split
      · rename_i hroom
        split
        · exact .replayHead hroom
        · exact .finish _ _ hroom
      · exact .refl

theorem LinkEffects.serveReplay (s : State) : LinkEffects s.link s.serveReplay.link := by
  unfold State.serveReplay
  split
  · exact .refl
  · split
    · rename_i hm
      exact .replayHead (by simpa using (Bool.and_eq_true_iff.mp hm).2)
    · exact .refl

theorem LinkEffects.serveReset (s : State) : LinkEffects s.link s.serveReset.link := by
  unfold State.serveReset
  split
  · exact .refl
  · split
    · split
      · rename_i hroom
        split
        · exact .replayHead hroom
        · split
          · exact .finish _ _ hroom
          · exact (LinkEffects.finish _ _ hroom).trans (.emptied rfl rfl (.inl ⟨rfl, rfl⟩))
      · exact .refl
    · exact .refl

theorem LinkEffects.judge (l : Link) (len : Byte) (body : List Byte) (received : Half) : LinkEffects l (l.judge len body received) := by
  unfold Link.judge
  dsimp only
  split
  · exact .quiet rfl rfl rfl rfl
  · split
    · exact .quiet rfl rfl rfl rfl
    · split
      · exact .quiet rfl rfl rfl rfl
      · split
        · exact .quiet rfl rfl rfl rfl
        · split
          · exact (LinkEffects.quiet (l := l) (l' := { l with receiver := .hunt, overruns := satInc l.overruns }) rfl rfl rfl rfl).trans (LinkEffect.raise _ _).run
          · rename_i hroom
            exact (LinkEffect.accept l _ (Nat.lt_of_not_le hroom)).run

theorem LinkEffects.takeByte (l : Link) (b : Byte) : LinkEffects l (l.takeByte b) := by
  unfold Link.takeByte
  split
  · split
    · exact .quiet rfl rfl rfl rfl
    · exact .refl
  · split <;> exact .quiet rfl rfl rfl rfl
  · split <;> exact .quiet rfl rfl rfl rfl
  · exact .quiet rfl rfl rfl rfl
  · exact .judge _ _ _ _

theorem LinkEffects.partReset (s : State) (cause : ResetCause) : LinkEffects s.link (s.partReset cause).link :=
  .emptied rfl rfl (.inr ⟨rfl, rfl⟩)

/-- Every command changes the link by a run of the changes above. -/
theorem exec_linkEffects {c : Instr} {s t : State} (h : exec c s = .next t) : LinkEffects s.link t.link := by
  cases c
  case frameStart | lineStart | pixel | lineEnd | frameEnd => exact (State.Follows.exec h (.inl rfl)).link.effects
  case take d => exact (State.Follows.exec h (.inr (.inl ⟨d, rfl⟩))).link.effects
  case stallTimerExpiry d => exact (State.Follows.exec h (.inr (.inr ⟨d, rfl⟩))).link.effects
  case identify | status | poolStatus => cases h; exact .serve_raised _ _ (fun p => .refl _)
  case getRegion => cases h; exact .serve_raised _ _ (fun p => by rw [State.getRegion_fst]; exact .refl _)
  case regionStatus => cases h; exact .serve_raised _ _ (fun p => by rw [State.regionStatus_fst]; exact .refl _)
  case read => cases h; exact .serve_raised _ _ (fun p => by rw [State.readCapture_fst]; exact .refl _)
  case drainStatus => cases h; exact .serve_raised _ _ (fun p => by rw [State.drainStatus_fst]; exact .refl _)
  case reset => cases h; exact .serveReset s
  case unknownRequest => cases h; exact .serveUnknown s
  case replay => cases h; exact .serveReplay s
  case stopInputNow => cases h; exact .serve_raised _ _ (fun p => (State.Follows.stopInputNow s p).link)
  case stopInputFrameEnd => cases h; exact .serve_raised _ _ (fun p => (State.Follows.stopInputFrameEnd s p).link)
  case setInput =>
    cases h; refine .serve_raised _ _ (fun p => ?_); unfold State.setInput; dsimp only; (repeat' split) <;> exact .refl _
  case startInput =>
    cases h; refine .serve_raised _ _ (fun p => ?_); unfold State.startInput; split <;> exact .refl _
  case defineRegion =>
    cases h; refine .serve_raised _ _ (fun p => ?_); unfold State.defineRegion; (repeat' split) <;> exact .refl _
  case clearRegion =>
    cases h; refine .serve_raised _ _ (fun p => ?_); unfold State.clearRegion; (repeat' split) <;> exact .refl _
  case cancelCommit =>
    cases h; refine .serve_raised _ _ (fun p => ?_); unfold State.cancelCommit; split <;> exact .refl _
  case commit =>
    cases h
    refine .serve_raised _ _ (fun p => ?_)
    unfold State.commit
    (repeat' split) <;> first | exact .refl _ | exact .raise _ _
  case haltRegion => cases h; exact .serve_raised _ _ (fun p => (State.Raises.haltRegion s p).link)
  case fetch => cases h; exact .serve_raised _ _ (fun p => (State.Raises.fetch s p).link)
  case release => cases h; exact .serve_raised _ _ (fun p => (State.Raises.release s p).link)
  case flush => cases h; exact .serve_raised _ _ (fun p => (State.Raises.flush s p).link)
  case setDrainEnable => cases h; exact .serve_raised _ _ (fun p => (State.Raises.setDrainWith .enableDrain s p).link)
  case setDrainDisable => cases h; exact .serve_raised _ _ (fun p => (State.Raises.setDrainWith .disableDrain s p).link)
  case setDrainAbort => cases h; exact .serve_raised _ _ (fun p => (State.Raises.setDrainWith .abortDrain s p).link)
  case setNotices =>
    cases h
    refine .serve _ _ (fun p => ?_)
    unfold State.setNotices
    split
    · exact ⟨.refl, rfl⟩
    · exact ⟨(LinkEffect.remask _ _).run, rfl⟩
  case requestFrame b =>
    change execRequestFrame b s = .next t at h
    unfold execRequestFrame at h
    (repeat' split at h) <;> cases h
    · exact .judge _ _ _ _
    all_goals exact .refl
  case framingError =>
    change execFramingError s = .next t at h
    unfold execFramingError at h
    (repeat' split at h) <;> cases h <;> exact .quiet rfl rfl rfl rfl
  case lenRefused b =>
    change execLenRefused b s = .next t at h
    unfold execLenRefused at h
    split at h <;> cases h <;> exact .quiet rfl rfl rfl rfl
  case gapTimerExpiry =>
    change execGapTimerExpiry s = .next t at h
    unfold execGapTimerExpiry at h
    split at h <;> cases h <;> exact .quiet rfl rfl rfl rfl
  case rxdReturnsHigh =>
    change execRxdReturnsHigh s = .next t at h
    unfold execRxdReturnsHigh at h
    split at h <;> cases h <;> exact .quiet rfl rfl rfl rfl
  case frameByteTaken b =>
    change execFrameByteTaken b s = .next t at h
    unfold execFrameByteTaken at h
    split at h <;> cases h
    · exact .takeByte _ _
    · exact .refl
  case linkBreak =>
    change execLinkBreak s = .next t at h
    unfold execLinkBreak at h
    (repeat' split at h) <;> cases h
    · exact .partReset s _
    · exact .emptied rfl rfl (.inr ⟨rfl, rfl⟩)
    · exact .refl
  case frameSent =>
    change execFrameSent s = .next t at h
    unfold execFrameSent at h
    (repeat' split at h) <;> cases h
    · exact .refl
    · exact (LinkEffect.noticeSent _).run
    · exact .partReset s _
    · exact (LinkEffect.replySent _).run
  case pinReset => cases h; exact .partReset s _
  case partReady baud rxd =>
    change execPartReady baud rxd s = .next t at h
    unfold execPartReady at h
    split at h <;> cases h
    · exact .refl
    · exact (LinkEffect.ready _ _ _ _).run

/-- A step is a command on the state with the rest of the queue, or the pixel in hand going on. -/
theorem step_cases {s t : State} (h : step s = .next t) :
    t = s.servePixel ∨ ∃ c rest, s.pending = c :: rest ∧ exec c { s with pending := rest } = .next t := by
  cases hp : s.pending with
  | nil =>
    rw [step_nil s hp] at h
    cases h
    exact .inl rfl
  | cons c rest => exact .inr ⟨c, rest, rfl, by rw [step_cons s c rest hp] at h; exact h⟩

theorem step_linkEffects {s t : State} (h : step s = .next t) : LinkEffects s.link t.link := by
  rcases step_cases h with rfl | ⟨c, rest, -, h⟩
  · exact (State.Raises.servePixel s).link.effects
  · exact exec_linkEffects (s := { s with pending := rest }) h

/-- Settles O55: both laws are kept along every kind of change that a command makes to the link. -/
theorem stepsKeepNoticeSetAndLinkQueues : Obligations.StepsKeepNoticeSetAndLinkQueues :=
  ⟨fun _ _ hs h => (step_linkEffects h).keeps LinkEffect.keeps_notices hs,
    fun _ _ hs h => (step_linkEffects h).keeps LinkEffect.keeps_bounded hs⟩

end Sys2Proof.Machine
end

section
/-! SUPPORT. What each command leaves of the Framer, of the pixel in hand and of the command queue, and the laws of the Framer, of the
active entries and of the pixel in hand (O2, O56). -/

namespace Sys2Proof.Machine

/-! ### Commands that reach the Link Controller alone -/

/-- The Link Controller and the readiness alone may differ. -/
def State.OnlyLink (s t : State) : Prop := t = { s with link := t.link, readiness := t.readiness }

namespace State.OnlyLink

theorem refl (s : State) : s.OnlyLink s := rfl

theorem trans {s t u : State} (h : s.OnlyLink t) (h' : t.OnlyLink u) : s.OnlyLink u := by
  unfold State.OnlyLink at *
  rw [h', h]

theorem table_eq {s t : State} (h : s.OnlyLink t) : t.table = s.table := by
  unfold State.OnlyLink at h
  rw [h]

theorem setLink (s : State) (l : Link) : s.OnlyLink (s.setLink l) := rfl

theorem finish (s : State) (q : Request) (p : List Byte) : s.OnlyLink (s.finish q p) := rfl

theorem replayHead (s : State) : s.OnlyLink s.replayHead := by
  unfold State.replayHead
  split <;> rfl

theorem serve {s : State} (k : ReqKind) (form : List Byte → Bool) {body : State → List Byte → State × List Byte}
    (hbody : ∀ p, s.OnlyLink (body s p).1) : s.OnlyLink (s.serve k form body) :=
  State.serve_keeps (State.OnlyLink s) s k form body (.refl s) (.replayHead s) (fun t q p ht => ht.trans (.finish t q p)) hbody

theorem serveUnknown (s : State) : s.OnlyLink s.serveUnknown := by
  unfold State.serveUnknown
  (repeat' split) <;> first | exact replayHead s | rfl

theorem serveReplay (s : State) : s.OnlyLink s.serveReplay := by
  unfold State.serveReplay
  (repeat' split) <;> first | exact replayHead s | rfl

theorem serveReset (s : State) : s.OnlyLink s.serveReset := by
  unfold State.serveReset
  (repeat' split) <;> first | exact replayHead s | rfl

theorem setNotices (s : State) (p : List Byte) : s.OnlyLink (s.setNotices p).1 := by
  unfold State.setNotices
  split <;> rfl

/-- The requests that report, the mask of the notices, RESET, UNKNOWN_REQUEST and REPLAY, the receiver, readiness. -/
def reaches : Instr → Bool
  | .identify | .status | .poolStatus | .getRegion | .regionStatus | .read | .drainStatus | .setNotices => true
  | .reset | .unknownRequest | .replay => true
  | .requestFrame _ | .framingError | .lenRefused _ | .gapTimerExpiry | .rxdReturnsHigh | .frameByteTaken _ | .partReady _ _ => true
  | _ => false

theorem exec {c : Instr} {s t : State} (hc : reaches c = true) (h : Machine.exec c s = .next t) : s.OnlyLink t := by
  cases c <;> simp only [reaches, Bool.false_eq_true] at hc
  case identify | status | poolStatus => cases h; exact serve _ _ (fun _ => refl s)
  case getRegion => cases h; exact serve _ _ (fun p => (State.getRegion_fst p).symm ▸ refl s)
  case regionStatus => cases h; exact serve _ _ (fun p => (State.regionStatus_fst p).symm ▸ refl s)
  case read => cases h; exact serve _ _ (fun p => (State.readCapture_fst p).symm ▸ refl s)
  case drainStatus => cases h; exact serve _ _ (fun p => (State.drainStatus_fst p).symm ▸ refl s)
  case setNotices => cases h; exact serve _ _ (setNotices s)
  case reset => cases h; exact serveReset s
  case unknownRequest => cases h; exact serveUnknown s
  case replay => cases h; exact serveReplay s
  case requestFrame b =>
    change execRequestFrame b s = .next t at h
    unfold execRequestFrame at h
    (repeat' split at h) <;> cases h <;> rfl
  case framingError =>
    change execFramingError s = .next t at h
    unfold execFramingError at h
    (repeat' split at h) <;> cases h <;> rfl
  case lenRefused b =>
    change execLenRefused b s = .next t at h
    unfold execLenRefused at h
    split at h <;> cases h <;> rfl
  case gapTimerExpiry =>
    change execGapTimerExpiry s = .next t at h
    unfold execGapTimerExpiry at h
    split at h <;> cases h <;> rfl
  case rxdReturnsHigh =>
    change execRxdReturnsHigh s = .next t at h
    unfold execRxdReturnsHigh at h
    split at h <;> cases h <;> rfl
  case frameByteTaken b =>
    change execFrameByteTaken b s = .next t at h
    unfold execFrameByteTaken at h
    split at h <;> cases h <;> rfl
  case partReady baud rxd =>
    change execPartReady baud rxd s = .next t at h
    unfold execPartReady at h
    split at h <;> cases h <;> rfl

end State.OnlyLink

/-! ### Commands that may end in a reset -/

/-- The two resets and the link break. -/
def mayReset : Instr → Bool
  | .pinReset | .frameSent | .linkBreak => true
  | _ => false

/-- A reset of the part, or a change of the link and of the delivery states. -/
theorem exec_mayReset {c : Instr} {s t : State} (hc : mayReset c = true) (h : exec c s = .next t) :
    (∃ cause, t = s.partReset cause) ∨ t = { s with link := t.link, captures := t.captures } := by
  cases c <;> simp only [mayReset, Bool.false_eq_true] at hc
  case pinReset => cases h; exact .inl ⟨_, rfl⟩
  case frameSent =>
    change execFrameSent s = .next t at h
    unfold execFrameSent at h
    (repeat' split at h) <;> cases h
    · exact .inr rfl
    · exact .inr rfl
    · exact .inl ⟨_, rfl⟩
    · exact .inr rfl
  case linkBreak =>
    change execLinkBreak s = .next t at h
    unfold execLinkBreak at h
    (repeat' split at h) <;> cases h
    · exact .inl ⟨_, rfl⟩
    · exact .inr rfl
    · exact .inr rfl

/-! ### Commands that leave the input alone -/

/-- The Framer, the pixel in hand and the queue of commands stay, and a commit becomes pending outside STOPPED alone. -/
structure State.KeepsInput (s t : State) : Prop where
  framer : t.framer = s.framer
  inHand : t.inHand = s.inHand
  pending : t.pending = s.pending
  pendingCommit : t.table.commitPending = true → s.table.commitPending = true ∨ s.framer.state ≠ .stopped

namespace State.KeepsInput

theorem refl (s : State) : s.KeepsInput s := ⟨rfl, rfl, rfl, .inl⟩

theorem trans {s t u : State} (h : s.KeepsInput t) (h' : t.KeepsInput u) : s.KeepsInput u :=
  ⟨h'.framer.trans h.framer, h'.inHand.trans h.inHand, h'.pending.trans h.pending,
    fun hu => (h'.pendingCommit hu).elim h.pendingCommit (fun hne => .inr (by rwa [h.framer] at hne))⟩

theorem of_raises {s t : State} (h : s.Raises t) (hf : t.framer = s.framer) (hi : t.inHand = s.inHand) (hp : t.pending = s.pending) :
    s.KeepsInput t := ⟨hf, hi, hp, fun ht => .inl (by rwa [h.commitPending] at ht)⟩

theorem of_onlyLink {s t : State} (h : s.OnlyLink t) : s.KeepsInput t := by
  unfold State.OnlyLink at h
  rw [h]
  exact ⟨rfl, rfl, rfl, .inl⟩

theorem finish (s : State) (q : Request) (p : List Byte) : s.KeepsInput (s.finish q p) := of_onlyLink (.finish s q p)

theorem replayHead (s : State) : s.KeepsInput s.replayHead := of_onlyLink (.replayHead s)

theorem serve {s : State} (k : ReqKind) (form : List Byte → Bool) {body : State → List Byte → State × List Byte}
    (hbody : ∀ p, s.KeepsInput (body s p).1) : s.KeepsInput (s.serve k form body) :=
  State.serve_keeps (State.KeepsInput s) s k form body (.refl s) (.replayHead s) (fun t q p ht => ht.trans (.finish t q p)) hbody

theorem acceptTake (s : State) (d : DrainId) (c : Capture) (p : Position) : s.KeepsInput (s.acceptTake d c p) := by
  have hmove : ∀ u : State, (u.moveOn d).framer = u.framer ∧ (u.moveOn d).inHand = u.inHand ∧ (u.moveOn d).pending = u.pending := by
    intro u
    unfold State.moveOn
    (repeat' split) <;> simp
  have hsend : ∀ k, (s.sendDataWord c k).framer = s.framer ∧ (s.sendDataWord c k).inHand = s.inHand ∧
      (s.sendDataWord c k).pending = s.pending := by
    intro k
    unfold State.sendDataWord
    dsimp only
    split <;> exact ⟨rfl, rfl, rfl⟩
  by_cases hp : p = .trailer 1
  · subst hp
    obtain ⟨h1, h2, h3⟩ := hmove ((s.setDrain d (s.drain d).restartTimer).freeCapture c)
    exact of_raises (.acceptTake _ _ _ _) (h1.trans (by simp)) (h2.trans (by simp)) (h3.trans (by simp))
  · refine of_raises (.acceptTake _ _ _ _) ?_ ?_ ?_
    all_goals
      rw [s.acceptTake_of_ne d c hp]
      dsimp only
      cases p <;> split <;> simp [hsend]

theorem take {s t : State} {d : DrainId} (h : execTake d s = .next t) : s.KeepsInput t := by
  have hraises := State.Raises.execTake h
  unfold Machine.execTake at h
  split at h
  · cases h; exact of_raises hraises (by simp [State.strayTake]) (by simp [State.strayTake]) (by simp [State.strayTake])
  · split at h <;> cases h
    · exact acceptTake _ _ _ _
    · exact refl s

theorem stallTimerExpiry {s t : State} {d : DrainId} (h : execStallTimerExpiry d s = .next t) : s.KeepsInput t := by
  have hraises := State.Raises.execStallTimerExpiry h
  unfold Machine.execStallTimerExpiry at h
  split at h <;> cases h
  · exact of_raises hraises (by simp) (by simp) (by simp)
  · exact refl s

theorem defineRegion (s : State) (p : List Byte) : s.KeepsInput (s.defineRegion p).1 := by
  unfold State.defineRegion
  (repeat' split) <;> exact ⟨rfl, rfl, rfl, .inl⟩

theorem clearRegion (s : State) (p : List Byte) : s.KeepsInput (s.clearRegion p).1 := by
  unfold State.clearRegion
  (repeat' split) <;> exact ⟨rfl, rfl, rfl, .inl⟩

theorem cancelCommit (s : State) (p : List Byte) : s.KeepsInput (s.cancelCommit p).1 := by
  unfold State.cancelCommit
  split
  · exact ⟨rfl, rfl, rfl, fun h => absurd h (by simp [State.setCommitPending])⟩
  · exact refl s

/-- A commit becomes pending in WAITING, IN_FRAME and SKIPPING; in STOPPED it is applied at once. -/
theorem commit (s : State) (p : List Byte) : s.KeepsInput (s.commit p).1 := by
  unfold State.commit
  split
  · exact refl s
  · split
    · exact refl s
    · split
      · exact ⟨rfl, rfl, rfl, fun h => absurd h (by simp [State.applyCommit_commitPending])⟩
      all_goals
        rename_i hstate
        exact ⟨rfl, rfl, rfl, fun _ => .inr (by simp [hstate])⟩

theorem haltRegion (s : State) (p : List Byte) : s.KeepsInput (s.haltRegion p).1 := by
  refine of_raises (.haltRegion s p) ?_ ?_ ?_ <;> unfold State.haltRegion <;> (repeat' split) <;> simp

theorem fetch (s : State) (p : List Byte) : s.KeepsInput (s.fetch p).1 := by
  refine of_raises (.fetch s p) ?_ ?_ ?_ <;> unfold State.fetch <;> (repeat' split) <;> simp

theorem release (s : State) (p : List Byte) : s.KeepsInput (s.release p).1 := by
  refine of_raises (.release s p) ?_ ?_ ?_ <;> unfold State.release <;> (repeat' split) <;> simp

theorem flush (s : State) (p : List Byte) : s.KeepsInput (s.flush p).1 := by
  refine of_raises (.flush s p) ?_ ?_ ?_ <;> unfold State.flush <;> split
  all_goals first | rfl | exact foldl_keeps _ _ (fun _ _ => by simp) _ _

theorem enableDrain {s t : State} {d : DrainId} {p : List Byte} (h : s.enableDrain d p = some t) : s.KeepsInput t := by
  have hraises := State.Raises.enableDrain h
  unfold State.enableDrain at h
  dsimp only at h
  (repeat' split at h) <;> cases h <;> exact of_raises hraises (by simp) (by simp) (by simp)

theorem disableDrain {s t : State} {d : DrainId} {p : List Byte} (h : s.disableDrain d p = some t) : s.KeepsInput t := by
  have hraises := State.Raises.disableDrain h
  unfold State.disableDrain at h
  split at h <;> cases h <;> exact of_raises hraises (by simp) (by simp) (by simp)

theorem abortDrain {s t : State} {d : DrainId} {p : List Byte} (h : s.abortDrain d p = some t) : s.KeepsInput t := by
  have hraises := State.Raises.abortDrain h
  unfold State.abortDrain at h
  split at h <;> cases h <;> exact of_raises hraises (by simp) (by simp) (by simp)

theorem setDrainWith {effect : State → DrainId → List Byte → Option State}
    (heffect : ∀ {s t : State} {d : DrainId} {p : List Byte}, effect s d p = some t → s.KeepsInput t) (s : State) (p : List Byte) :
    s.KeepsInput (s.setDrainWith effect p).1 := by
  unfold State.setDrainWith
  split
  · exact refl s
  · exact refl s
  · split
    · exact refl s
    · rename_i h; exact heffect h

/-- The commands that reach the Framer or the pixel in hand: the events of the pixel port, the requests that control the input, and those
that may end in a reset. -/
def movesInput : Instr → Bool
  | .frameStart | .lineStart | .pixel _ | .lineEnd | .frameEnd => true
  | .setInput | .startInput | .stopInputNow | .stopInputFrameEnd => true
  | .pinReset | .frameSent | .linkBreak => true
  | _ => false

theorem exec {c : Instr} {s t : State} (hc : movesInput c = false) (h : Machine.exec c s = .next t) : s.KeepsInput t := by
  cases c with
  | frameStart | lineStart | pixel | lineEnd | frameEnd => simp [movesInput] at hc
  | setInput | startInput | stopInputNow | stopInputFrameEnd => simp [movesInput] at hc
  | pinReset | frameSent | linkBreak => simp [movesInput] at hc
  | take d => exact take h
  | stallTimerExpiry d => exact stallTimerExpiry h
  | defineRegion => cases h; exact serve _ _ (defineRegion s)
  | clearRegion => cases h; exact serve _ _ (clearRegion s)
  | commit => cases h; exact serve _ _ (commit s)
  | cancelCommit => cases h; exact serve _ _ (cancelCommit s)
  | haltRegion => cases h; exact serve _ _ (haltRegion s)
  | fetch => cases h; exact serve _ _ (fetch s)
  | release => cases h; exact serve _ _ (release s)
  | flush => cases h; exact serve _ _ (flush s)
  | setDrainEnable => cases h; exact serve _ _ (setDrainWith enableDrain s)
  | setDrainDisable => cases h; exact serve _ _ (setDrainWith disableDrain s)
  | setDrainAbort => cases h; exact serve _ _ (setDrainWith abortDrain s)
  | identify | status | poolStatus | getRegion | regionStatus | read | drainStatus | setNotices => exact of_onlyLink (.exec rfl h)
  | reset | unknownRequest | replay => exact of_onlyLink (.exec rfl h)
  | requestFrame | framingError | lenRefused | gapTimerExpiry | rxdReturnsHigh | frameByteTaken | partReady =>
    exact of_onlyLink (.exec rfl h)

end State.KeepsInput

/-! ### The requests that control the input -/

/-- Everything SET_INPUT can do: nothing, or in STOPPED a new geometry, in range, in which every active entry in use fits (R35). -/
theorem State.setInput_cases (s : State) (p : List Byte) :
    (s.setInput p).1 = s ∨ s.framer.state = .stopped ∧ ∃ w h depth, 16 ≤ w ∧ w ≤ 4096 ∧ 1 ≤ h ∧ h ≤ 4096 ∧
      s.activeMisfit w h depth.bpp = none ∧
      (s.setInput p).1 = { s with framer := { s.framer with width := w, height := h, depth := depth } } := by
  unfold State.setInput
  split
  · exact .inl rfl
  · rename_i hstate
    split
    · exact .inl rfl
    · rename_i hfields
      dsimp only
      split
      · exact .inl rfl
      · rename_i hfit
        rw [firstFailing_setInputChecks] at hfields
        split_ifs at hfields with hwidth hheight
        exact .inr ⟨by simpa using hstate, _, _, _, by omega, by omega, by omega, by omega, hfit, rfl⟩

theorem State.enterStopped_framer (s : State) :
    s.enterStopped.framer = { s.framer with state := .stopped, stopPending := false } := by
  rw [s.enterStopped_frame]

theorem State.applyPending_commitPending (s : State) : s.applyPending.table.commitPending = false := by
  unfold State.applyPending
  split
  · rfl
  · simp_all

theorem State.enterStopped_commitPending (s : State) : s.enterStopped.table.commitPending = false :=
  State.applyPending_commitPending _

theorem State.enterSkipping_framer (s : State) (reason : LossReason) (event : InputEvent) :
    (s.enterSkipping reason event).framer = { s.framer with state := .skipping } := by
  simp [State.enterSkipping]

/-! ### The queue of commands under each command (O2) -/

@[simp] theorem State.takeLineStart_pending (s : State) : s.takeLineStart.pending = s.pending := by
  unfold State.takeLineStart
  (repeat' split) <;> simp

@[simp] theorem State.takeLineEnd_pending (s : State) : s.takeLineEnd.pending = s.pending := by
  unfold State.takeLineEnd
  (repeat' split) <;> simp

@[simp] theorem State.takePixel_pending (s : State) (pd : PixelLines) : (s.takePixel pd).pending = s.pending := by
  unfold State.takePixel
  dsimp only
  (repeat' split) <;> simp

@[simp] theorem State.leaveFrame_pending (s : State) : s.leaveFrame.pending = s.pending := by
  unfold State.leaveFrame
  split <;> simp

@[simp] theorem State.takeFrameEnd_pending (s : State) : s.takeFrameEnd.pending = s.pending := by
  unfold State.takeFrameEnd
  (repeat' split) <;> simp

@[simp] theorem State.takeFrameStart_pending (s : State) : s.takeFrameStart.pending = s.pending := by
  unfold State.takeFrameStart
  split <;> simp

@[simp] theorem State.stopNow_pending (s : State) : s.stopNow.pending = s.pending := by
  unfold State.stopNow
  split <;> simp

@[simp] theorem State.stopAtFrameEnd_pending (s : State) : s.stopAtFrameEnd.pending = s.pending := by
  unfold State.stopAtFrameEnd
  split <;> simp

theorem State.serve_pending {s : State} (k : ReqKind) (form : List Byte → Bool) {body : State → List Byte → State × List Byte}
    (hbody : ∀ p, (body s p).1.pending = s.pending) : (s.serve k form body).pending = s.pending :=
  State.serve_keeps (fun t => t.pending = s.pending) s k form body rfl (State.KeepsInput.replayHead s).pending
    (fun _ _ _ ht => ht) hbody

theorem exec_pending {c : Instr} {s t : State} (h : exec c s = .next t) : t.pending = s.pending := by
  cases hc : State.KeepsInput.movesInput c with
  | false => exact (State.KeepsInput.exec hc h).pending
  | true =>
    cases c <;> simp only [State.KeepsInput.movesInput, Bool.false_eq_true] at hc
    case frameStart =>
      change execFrameStart s = .next t at h
      unfold execFrameStart at h
      dsimp only at h
      (repeat' split at h) <;> cases h <;> simp
    case lineStart =>
      change execLineStart s = .next t at h
      unfold execLineStart at h
      dsimp only at h
      split at h <;> cases h <;> simp
    case pixel pd =>
      change execPixel pd s = .next t at h
      unfold execPixel at h
      dsimp only at h
      split at h <;> cases h <;> simp
    case lineEnd =>
      change execLineEnd s = .next t at h
      unfold execLineEnd at h
      dsimp only at h
      split at h <;> cases h <;> simp
    case frameEnd =>
      change execFrameEnd s = .next t at h
      unfold execFrameEnd at h
      dsimp only at h
      (repeat' split at h) <;> cases h <;> simp
    case setInput =>
      cases h
      refine State.serve_pending _ _ (fun p => ?_)
      rcases s.setInput_cases p with heq | ⟨-, w, h, depth, -, -, -, -, -, heq⟩ <;> rw [heq]
    case startInput =>
      cases h; refine State.serve_pending _ _ (fun p => ?_); unfold State.startInput; split <;> rfl
    case stopInputNow =>
      cases h; refine State.serve_pending _ _ (fun p => ?_); unfold State.stopInputNow; split
      · exact s.stopNow_pending
      · rfl
    case stopInputFrameEnd =>
      cases h; refine State.serve_pending _ _ (fun p => ?_); unfold State.stopInputFrameEnd; split
      · exact s.stopAtFrameEnd_pending
      · rfl
    case pinReset | frameSent | linkBreak =>
      rcases exec_mayReset rfl h with ⟨cause, rfl⟩ | heq
      · rfl
      · rw [heq]

theorem exec_next (c : Instr) (s : State) : ∃ t, exec c s = .next t := by
  cases c
  case frameStart => unfold exec execFrameStart; dsimp only; (repeat' split) <;> exact ⟨_, rfl⟩
  case lineStart => unfold exec execLineStart; dsimp only; split <;> exact ⟨_, rfl⟩
  case pixel => unfold exec execPixel; dsimp only; split <;> exact ⟨_, rfl⟩
  case lineEnd => unfold exec execLineEnd; dsimp only; split <;> exact ⟨_, rfl⟩
  case frameEnd => unfold exec execFrameEnd; dsimp only; (repeat' split) <;> exact ⟨_, rfl⟩
  case requestFrame => unfold exec execRequestFrame; dsimp only; (repeat' split) <;> exact ⟨_, rfl⟩
  case framingError => unfold exec execFramingError; dsimp only; (repeat' split) <;> exact ⟨_, rfl⟩
  case lenRefused => unfold exec execLenRefused; dsimp only; split <;> exact ⟨_, rfl⟩
  case gapTimerExpiry => unfold exec execGapTimerExpiry; dsimp only; split <;> exact ⟨_, rfl⟩
  case rxdReturnsHigh => unfold exec execRxdReturnsHigh; dsimp only; split <;> exact ⟨_, rfl⟩
  case frameByteTaken => unfold exec execFrameByteTaken; dsimp only; split <;> exact ⟨_, rfl⟩
  case linkBreak => unfold exec execLinkBreak; dsimp only; (repeat' split) <;> exact ⟨_, rfl⟩
  case frameSent => unfold exec execFrameSent; dsimp only; (repeat' split) <;> exact ⟨_, rfl⟩
  case partReady => unfold exec execPartReady; dsimp only; split <;> exact ⟨_, rfl⟩
  case take => unfold exec execTake; dsimp only; (repeat' split) <;> exact ⟨_, rfl⟩
  case stallTimerExpiry => unfold exec execStallTimerExpiry; dsimp only; split <;> exact ⟨_, rfl⟩
  all_goals exact ⟨_, rfl⟩

/-- Settles O2: every meaning ends in a next state, and none names the queue of commands. -/
theorem everyCommandEndsInNextState : Obligations.EveryCommandEndsInNextState := by
  intro c s
  obtain ⟨t, ht⟩ := exec_next c s
  exact ⟨t, ht, exec_pending ht⟩

end Sys2Proof.Machine
end

section
/-! SUPPORT. The laws of the Framer, of the active entries and of the pixel in hand along a step (O56). -/

namespace Sys2Proof.Machine

/-! ### The law of the Framer -/

/-- The ranges of the geometry (R35). -/
def Framer.GeometryInRange (f : Framer) : Prop := 16 ≤ f.width ∧ f.width ≤ 4096 ∧ 1 ≤ f.height ∧ f.height ≤ 4096

theorem State.FramerLaw.geometry {s : State} (h : s.FramerLaw) : s.framer.GeometryInRange := by
  obtain ⟨-, -, -, hgeometry⟩ := h
  exact hgeometry

/-- A Framer that differs in its counts and levels alone, FV high kept in a frame. -/
theorem State.FramerLaw.of_fields {s t : State} (h : s.FramerLaw) (hstate : t.framer.state = s.framer.state)
    (hstop : t.framer.stopPending = s.framer.stopPending) (hw : t.framer.width = s.framer.width) (hh : t.framer.height = s.framer.height)
    (hfv : s.framer.fv = .high → t.framer.fv = .high) (hcommit : t.table.commitPending = true → s.table.commitPending = true) :
    t.FramerLaw := by
  obtain ⟨h1, h2, h3, hgeometry⟩ := h
  refine ⟨?_, ?_, ?_, ?_⟩
  · rw [hstate, hstop]; exact h1
  · rw [hstate]; exact fun ht => h2 (hcommit ht)
  · rw [hstate]; exact fun ht => hfv (h3 ht)
  · rw [hw, hh]; exact hgeometry

theorem State.FramerLaw.of_raises {s t : State} (h : s.FramerLaw) (hr : s.Raises t) (hf : t.framer = s.framer) : t.FramerLaw :=
  h.of_fields (by rw [hf]) (by rw [hf]) (by rw [hf]) (by rw [hf]) (by rw [hf]; exact id) (by rw [hr.commitPending]; exact id)

theorem State.FramerLaw.keepsInput {s t : State} (h : s.FramerLaw) (hk : s.KeepsInput t) : t.FramerLaw := by
  obtain ⟨h1, h2, h3, hgeometry⟩ := h
  refine ⟨?_, ?_, ?_, ?_⟩ <;> rw [hk.framer]
  · exact h1
  · exact fun ht => (hk.pendingCommit ht).elim h2 id
  · exact h3
  · exact hgeometry

/-- Outside a frame FV may have any level. -/
theorem State.framerLaw_outside {s : State} (hout : s.framer.state = .stopped ∨ s.framer.state = .waiting)
    (hstop : s.framer.stopPending = false) (hcommit : s.framer.state = .stopped → s.table.commitPending = false)
    (hgeometry : s.framer.GeometryInRange) : s.FramerLaw := by
  refine ⟨by simp [hstop], fun ht hs => ?_, fun hin => ?_, hgeometry⟩
  · simp [hcommit hs] at ht
  · rcases hout with h | h <;> rw [h] at hin <;> simp at hin

theorem State.FramerLaw.enterStopped {s : State} (h : s.framer.GeometryInRange) : s.enterStopped.FramerLaw := by
  refine State.framerLaw_outside (.inl ?_) ?_ (fun _ => s.enterStopped_commitPending) ?_ <;> rw [s.enterStopped_framer]
  exact h

theorem State.FramerLaw.enterSkipping {s : State} (h : s.FramerLaw) (hstate : s.framer.state = .inFrame) (reason : LossReason)
    (event : InputEvent) : (s.enterSkipping reason event).FramerLaw := by
  obtain ⟨h1, h2, h3, hgeometry⟩ := h
  refine ⟨?_, ?_, ?_, ?_⟩ <;> rw [s.enterSkipping_framer]
  · exact fun _ => .inr rfl
  · exact fun _ => by simp
  · exact fun _ => h3 (.inl hstate)
  · exact hgeometry

theorem State.FramerLaw.countError {s : State} (h : s.FramerLaw) (event : InputEvent) : (s.countError event).FramerLaw := by
  rw [s.countError_frame event]
  exact h

theorem State.countError_state (s : State) (event : InputEvent) : (s.countError event).framer.state = s.framer.state := by
  rw [s.countError_frame event]

theorem State.FramerLaw.takeLineStart {s : State} (h : s.FramerLaw) : s.takeLineStart.FramerLaw := by
  unfold State.takeLineStart
  split
  · rename_i hstate
    split
    · exact h
    · exact (h.countError _).enterSkipping ((s.countError_state _).trans hstate) _ _
  · split
    · exact h.countError .strayLine
    · exact h
  · exact h
  · exact h

theorem State.FramerLaw.takeLineEnd {s : State} (h : s.FramerLaw) : s.takeLineEnd.FramerLaw := by
  have hrow : (s.rowEnd s.framer.linesDone).FramerLaw := h.of_raises (.rowEnd _ _) (s.rowEnd_framer _)
  unfold State.takeLineEnd
  generalize s.rowEnd s.framer.linesDone = u at hrow ⊢
  split
  · rename_i hstate
    split
    · exact (h.countError _).enterSkipping ((s.countError_state _).trans hstate) _ _
    · exact hrow
  · exact h
  · exact h
  · exact h

theorem State.FramerLaw.takePixel {s : State} (h : s.FramerLaw) (pd : PixelLines) : (s.takePixel pd).FramerLaw := by
  unfold State.takePixel
  split
  · rename_i hstate
    dsimp only
    have hcounted : State.FramerLaw { s with framer := { s.framer with pixelCount := s.framer.pixelCount + 1 } } := h
    have hin : (State.framer { s with framer := { s.framer with pixelCount := s.framer.pixelCount + 1 } }).state = .inFrame := hstate
    generalize ({ s with framer := { s.framer with pixelCount := s.framer.pixelCount + 1 } } : State) = u at hcounted hin ⊢
    split
    · exact hcounted.of_raises (.serveRegions _ _ _ _ _ _) (State.serveRegions_framer _ _ _ _ _ _)
    · exact (hcounted.countError _).enterSkipping ((State.countError_state _ _).trans hin) _ _
  · exact h
  · exact h
  · exact h

/-- The frame ends with FV low. -/
theorem State.FramerLaw.leaveFrame {s : State} (h : s.framer.GeometryInRange) : s.leaveFrame.FramerLaw := by
  unfold State.leaveFrame
  split
  · exact .enterStopped h
  · rename_i hstop
    exact State.framerLaw_outside (.inr rfl) (by simpa using hstop) (by simp) h

theorem State.FramerLaw.takeFrameEnd {s : State} (hgeometry : s.framer.GeometryInRange)
    (hout : s.framer.state = .stopped ∨ s.framer.state = .waiting → s.FramerLaw) : s.takeFrameEnd.FramerLaw := by
  unfold State.takeFrameEnd
  split
  · split
    · refine .leaveFrame ?_
      rw [State.raiseInput_framer, State.abandonAll_framer, s.countError_frame]
      exact hgeometry
    · exact .leaveFrame hgeometry
  · exact .leaveFrame hgeometry
  · rename_i hstate; exact hout (.inl hstate)
  · rename_i hstate; exact hout (.inr hstate)

theorem State.FramerLaw.takeFrameStart {s : State} (h : s.FramerLaw) (hfv : s.framer.fv = .high) : s.takeFrameStart.FramerLaw := by
  obtain ⟨h1, h2, h3, hgeometry⟩ := id h
  unfold State.takeFrameStart
  split
  · rename_i hstate
    refine State.FramerLaw.of_raises (s := State.applyPending _) ?_ (.evaluateDue _) (State.evaluateDue_framer _)
    refine ⟨?_, ?_, ?_, ?_⟩ <;> rw [State.applyPending_framer]
    · exact fun _ => .inl rfl
    · exact fun _ => by simp
    · exact fun _ => hfv
    · exact hgeometry
  · exact h
  · exact h
  · exact h

theorem State.FramerLaw.partReset (s : State) (cause : ResetCause) : (s.partReset cause).FramerLaw :=
  State.framerLaw_outside (.inl rfl) rfl (fun _ => rfl) (by change Framer.reset.GeometryInRange; unfold Framer.GeometryInRange; decide)

theorem State.FramerLaw.setInput {s : State} (h : s.FramerLaw) (p : List Byte) : (s.setInput p).1.FramerLaw := by
  obtain ⟨h1, h2, h3, -⟩ := id h
  rcases s.setInput_cases p with heq | ⟨-, w, h', depth, hw1, hw2, hh1, hh2, -, heq⟩ <;> rw [heq]
  · exact h
  · exact ⟨h1, h2, h3, hw1, hw2, hh1, hh2⟩

theorem State.FramerLaw.startInput {s : State} (h : s.FramerLaw) (p : List Byte) : (s.startInput p).1.FramerLaw := by
  unfold State.startInput
  split
  · rename_i hstate
    obtain ⟨h1, -, -, hgeometry⟩ := h
    refine State.framerLaw_outside (.inr rfl) ?_ (by simp) hgeometry
    simpa [hstate] using h1
  · exact h

theorem State.FramerLaw.stopNow {s : State} (h : s.FramerLaw) : s.stopNow.FramerLaw := by
  unfold State.stopNow
  split
  · exact h
  · exact .enterStopped h.geometry
  · exact .enterStopped h.geometry
  · refine .enterStopped ?_
    rw [State.abandonAll_framer]
    exact h.geometry

theorem State.FramerLaw.stopAtFrameEnd {s : State} (h : s.FramerLaw) : s.stopAtFrameEnd.FramerLaw := by
  obtain ⟨-, h2, h3, hgeometry⟩ := id h
  unfold State.stopAtFrameEnd
  split
  · exact h
  · exact .enterStopped hgeometry
  · rename_i hstate; exact ⟨fun _ => .inl hstate, h2, h3, hgeometry⟩
  · rename_i hstate; exact ⟨fun _ => .inr hstate, h2, h3, hgeometry⟩

theorem State.FramerLaw.serve {s : State} (h : s.FramerLaw) (k : ReqKind) (form : List Byte → Bool)
    {body : State → List Byte → State × List Byte} (hbody : ∀ p, (body s p).1.FramerLaw) : (s.serve k form body).FramerLaw :=
  State.serve_keeps (fun t => t.FramerLaw) s k form body h (h.keepsInput (.replayHead s)) (fun t q p ht => ht.keepsInput (.finish t q p))
    hbody

theorem State.FramerLaw.exec {c : Instr} {s t : State} (hs : s.FramerLaw) (h : Machine.exec c s = .next t) : t.FramerLaw := by
  have hfinish : s.finishPixel.FramerLaw := hs.of_raises (.finishPixel s) s.finishPixel_framer
  have hlv : ∀ v, (s.finishPixel.setLv v).FramerLaw := fun v => hfinish
  have hrise : (s.finishPixel.setFv .high).FramerLaw := hfinish.of_fields rfl rfl rfl rfl (fun _ => rfl) id
  have hfall : ∀ {u : State}, u.FramerLaw → (u.setFv .low).takeFrameEnd.FramerLaw := by
    intro u hu
    obtain ⟨h1, h2, h3, hgeometry⟩ := hu
    refine .takeFrameEnd hgeometry (fun hout => ⟨h1, h2, fun hin => ?_, hgeometry⟩)
    rcases hout with h | h <;> rw [h] at hin <;> simp at hin
  cases hc : State.KeepsInput.movesInput c with
  | false => exact hs.keepsInput (.exec hc h)
  | true =>
    cases c <;> simp only [State.KeepsInput.movesInput, Bool.false_eq_true] at hc
    case frameStart =>
      change execFrameStart s = .next t at h
      unfold execFrameStart at h
      dsimp only at h
      split at h
      · cases h; exact hfinish
      · split at h <;> cases h
        · exact (hrise.takeFrameStart rfl).takeLineStart
        · exact hrise.takeFrameStart rfl
    case lineStart =>
      change execLineStart s = .next t at h
      unfold execLineStart at h
      dsimp only at h
      split at h <;> cases h
      · exact hfinish
      · exact (hlv .high).takeLineStart
    case pixel pd =>
      change execPixel pd s = .next t at h
      unfold execPixel at h
      dsimp only at h
      split at h <;> cases h
      · exact hfinish
      · exact (hlv .high).takePixel pd
    case lineEnd =>
      change execLineEnd s = .next t at h
      unfold execLineEnd at h
      dsimp only at h
      split at h <;> cases h
      · exact hfinish
      · exact (hlv .low).takeLineEnd
    case frameEnd =>
      change execFrameEnd s = .next t at h
      unfold execFrameEnd at h
      dsimp only at h
      split at h
      · cases h; exact hfinish
      · split at h <;> cases h
        · exact hfall (hlv .low).takeLineEnd
        · exact hfall hfinish
    case setInput => cases h; exact hs.serve _ _ hs.setInput
    case startInput => cases h; exact hs.serve _ _ hs.startInput
    case stopInputNow =>
      cases h
      refine hs.serve _ _ (fun p => ?_)
      unfold State.stopInputNow
      split
      · exact hs.stopNow
      · exact hs
    case stopInputFrameEnd =>
      cases h
      refine hs.serve _ _ (fun p => ?_)
      unfold State.stopInputFrameEnd
      split
      · exact hs.stopAtFrameEnd
      · exact hs
    case pinReset | frameSent | linkBreak =>
      rcases exec_mayReset rfl h with ⟨cause, rfl⟩ | heq
      · exact .partReset s cause
      · rw [heq]; exact hs

/-! ### The law of the active entries -/

theorem State.EntriesDefined.of_raises {s t : State} (hr : s.Raises t) (hs : s.EntriesDefined) : t.EntriesDefined :=
  fun r => by rw [hr.definition r, hr.unused r]; exact hs r

theorem State.EntriesDefined.applyCommit (s : State) : s.applyCommit.EntriesDefined := by
  intro r
  rw [s.applyCommit_entry]
  unfold appliedEntry
  split <;> simp

/-- The table as far as the law of the active entries reads it. -/
theorem State.EntriesDefined.of_active {s t : State} (hs : s.EntriesDefined) (h : t.table.active = s.table.active) : t.EntriesDefined :=
  fun r => by rw [State.entry, h]; exact hs r

theorem State.EntriesDefined.follows {s t : State} (hs : s.EntriesDefined) (h : s.Follows t) : t.EntriesDefined :=
  h.keeps (fun hr h => .of_raises hr h) (fun {u} _ _ => .applyCommit u) hs

theorem State.EntriesDefined.partReset (s : State) (cause : ResetCause) : (s.partReset cause).EntriesDefined := by
  intro r
  have : (s.partReset cause).entry r = ActiveEntry.reset := by simp [State.entry, State.partReset, State.reset, RegionTable.reset]
  rw [this]
  simp [ActiveEntry.reset]

theorem State.EntriesDefined.serve {s : State} (h : s.EntriesDefined) (k : ReqKind) (form : List Byte → Bool)
    {body : State → List Byte → State × List Byte} (hbody : ∀ p, (body s p).1.EntriesDefined) : (s.serve k form body).EntriesDefined :=
  State.serve_keeps (fun t => t.EntriesDefined) s k form body h (h.of_active (by rw [s.replayHead_frame])) (fun _ _ _ ht => ht) hbody

theorem State.EntriesDefined.exec {c : Instr} {s t : State} (hs : s.EntriesDefined) (h : Machine.exec c s = .next t) :
    t.EntriesDefined := by
  have raises : ∀ {body : State → List Byte → State × List Byte} (k form), (∀ p, s.Raises (body s p).1) →
      (s.serve k form body).EntriesDefined := fun k form hbody => hs.serve k form (fun p => .of_raises (hbody p) hs)
  have link : s.OnlyLink t → t.EntriesDefined := fun hl => hs.of_active (by rw [State.OnlyLink.table_eq hl])
  cases c with
  | frameStart | lineStart | pixel | lineEnd | frameEnd => exact hs.follows (.exec h (.inl rfl))
  | take d => exact hs.follows (.exec h (.inr (.inl ⟨d, rfl⟩)))
  | stallTimerExpiry d => exact hs.follows (.exec h (.inr (.inr ⟨d, rfl⟩)))
  | identify | status | poolStatus | getRegion | regionStatus | read | drainStatus | setNotices => exact link (.exec rfl h)
  | reset | unknownRequest | replay => exact link (.exec rfl h)
  | requestFrame | framingError | lenRefused | gapTimerExpiry | rxdReturnsHigh | frameByteTaken | partReady => exact link (.exec rfl h)
  | setInput =>
    cases h
    refine hs.serve _ _ (fun p => ?_)
    rcases s.setInput_cases p with heq | ⟨-, w, h, depth, -, -, -, -, -, heq⟩ <;> rw [heq] <;> exact hs
  | startInput => cases h; refine hs.serve _ _ (fun p => ?_); unfold State.startInput; split <;> exact hs
  | stopInputNow => cases h; exact hs.serve _ _ (fun p => hs.follows (.stopInputNow s p))
  | stopInputFrameEnd => cases h; exact hs.serve _ _ (fun p => hs.follows (.stopInputFrameEnd s p))
  | defineRegion => cases h; refine hs.serve _ _ (fun p => ?_); unfold State.defineRegion; (repeat' split) <;> exact hs
  | clearRegion => cases h; refine hs.serve _ _ (fun p => ?_); unfold State.clearRegion; (repeat' split) <;> exact hs
  | cancelCommit => cases h; refine hs.serve _ _ (fun p => ?_); unfold State.cancelCommit; split <;> exact hs
  | commit =>
    cases h
    refine hs.serve _ _ (fun p => ?_)
    unfold State.commit
    split
    · exact hs
    · split
      · exact hs
      · split
        · exact .applyCommit s
        all_goals exact hs
  | haltRegion => cases h; exact raises _ _ (.haltRegion s)
  | fetch => cases h; exact raises _ _ (.fetch s)
  | release => cases h; exact raises _ _ (.release s)
  | flush => cases h; exact raises _ _ (.flush s)
  | setDrainEnable => cases h; exact raises _ _ (.setDrainWith .enableDrain s)
  | setDrainDisable => cases h; exact raises _ _ (.setDrainWith .disableDrain s)
  | setDrainAbort => cases h; exact raises _ _ (.setDrainWith .abortDrain s)
  | pinReset | frameSent | linkBreak =>
    rcases exec_mayReset rfl h with ⟨cause, rfl⟩ | heq
    · exact .partReset s cause
    · rw [heq]; exact hs

/-! ### The law of the pixel in hand -/

theorem State.InHandLaw.of_none {s : State} (h : s.inHand = none) : s.InHandLaw := by
  intro p hp
  rw [h] at hp
  simp at hp

theorem State.InHandLaw.keepsInput {s t : State} (h : s.InHandLaw) (hk : s.KeepsInput t) : t.InHandLaw := by
  intro p hp
  rw [hk.inHand] at hp
  rw [hk.framer]
  exact h p hp

/-- A pixel is in hand in IN_FRAME alone. -/
theorem State.InHandLaw.eq_none {s : State} (h : s.InHandLaw) (hstate : s.framer.state ≠ .inFrame) : s.inHand = none := by
  cases hp : s.inHand with
  | none => rfl
  | some p => exact absurd (h p hp).1 hstate

/-- The regions left in hand are a last part of those that the pixel had to reach. -/
theorem State.serveRegions_inHand {x y : Nat} {v : Half} {asked : Bool} {l : List RegionId} {s : State} {p : PixelInHand}
    (h : (State.serveRegions x y v asked l s).inHand = some p) : p.x = x ∧ p.y = y ∧ p.value = v ∧ p.rest <:+ l := by
  obtain ⟨k, -, heq⟩ := State.serveRegions_split x y v asked l s
  rw [heq] at h
  by_cases hk : k = l.length <;> simp only [hk, if_true, if_false, reduceCtorEq, Option.some.injEq] at h
  subst h
  exact ⟨rfl, rfl, rfl, List.drop_suffix k l⟩

theorem State.InHandLaw.servePixel {s : State} (h : s.InHandLaw) : s.servePixel.InHandLaw := by
  unfold State.servePixel
  split
  · exact h
  · rename_i p hp
    obtain ⟨hstate, hlv, hx, hw, hy, hrest⟩ := h p hp
    intro p' hp'
    obtain ⟨hx', hy', -, hrest'⟩ := State.serveRegions_inHand hp'
    rw [State.serveRegions_framer, hx', hy']
    exact ⟨hstate, hlv, hx, hw, hy, hrest'.trans hrest⟩

theorem State.takePixel_inHandLaw {s : State} (h : s.inHand = none) (hlv : s.framer.lv = .high) (pd : PixelLines) :
    (s.takePixel pd).InHandLaw := by
  unfold State.takePixel
  split
  · rename_i hstate
    dsimp only
    split
    · rename_i hle
      intro p hp
      obtain ⟨hx, hy, -, hrest⟩ := State.serveRegions_inHand hp
      rw [State.extractPixel_framer, hx, hy]
      exact ⟨hstate, hlv, rfl, hle, rfl, hrest⟩
    · exact .of_none (by rw [State.enterSkipping_inHand, State.countError_frame]; exact h)
  all_goals exact .of_none h

@[simp] theorem State.takeLineStart_inHand (s : State) : s.takeLineStart.inHand = s.inHand := by
  unfold State.takeLineStart
  (repeat' split) <;> simp

@[simp] theorem State.takeLineEnd_inHand (s : State) : s.takeLineEnd.inHand = s.inHand := by
  unfold State.takeLineEnd
  (repeat' split) <;> simp

@[simp] theorem State.takeFrameStart_inHand (s : State) : s.takeFrameStart.inHand = s.inHand := by
  unfold State.takeFrameStart
  split <;> simp

theorem State.leaveFrame_inHand {s : State} (h : s.inHand = none) : s.leaveFrame.inHand = none := by
  unfold State.leaveFrame
  split
  · simp
  · exact h

theorem State.takeFrameEnd_inHand {s : State} (h : s.inHand = none) : s.takeFrameEnd.inHand = none := by
  unfold State.takeFrameEnd
  split
  · split
    · refine State.leaveFrame_inHand ?_
      rw [State.raiseInput_inHand, State.abandonAll_inHand, State.countError_frame]
      exact h
    · exact State.leaveFrame_inHand h
  · exact State.leaveFrame_inHand h
  · exact h
  · exact h

theorem State.stopNow_inHand (s : State) : s.stopNow.inHand = if s.framer.state = .stopped then s.inHand else none := by
  unfold State.stopNow
  split <;> simp_all

theorem State.InHandLaw.exec {c : Instr} {s t : State} (hs : s.InHandLaw) (h : Machine.exec c s = .next t) : t.InHandLaw := by
  have hfinish := s.finishPixel_inHand
  have serve : ∀ {k form} {body : State → List Byte → State × List Byte}, (∀ p, (body s p).1.InHandLaw) →
      (s.serve k form body).InHandLaw := fun hbody => State.serve_keeps (fun t => t.InHandLaw) s _ _ _ hs
        (hs.keepsInput (.replayHead s)) (fun t q p ht => ht.keepsInput (.finish t q p)) hbody
  cases hc : State.KeepsInput.movesInput c with
  | false => exact hs.keepsInput (.exec hc h)
  | true =>
    cases c <;> simp only [State.KeepsInput.movesInput, Bool.false_eq_true] at hc
    case frameStart =>
      change execFrameStart s = .next t at h
      unfold execFrameStart at h
      dsimp only at h
      (repeat' split at h) <;> cases h <;> exact .of_none (by simp)
    case lineStart =>
      change execLineStart s = .next t at h
      unfold execLineStart at h
      dsimp only at h
      split at h <;> cases h <;> exact .of_none (by simp)
    case pixel pd =>
      change execPixel pd s = .next t at h
      unfold execPixel at h
      dsimp only at h
      split at h <;> cases h
      · exact .of_none hfinish
      · exact State.takePixel_inHandLaw (by simp) (by simp) pd
    case lineEnd =>
      change execLineEnd s = .next t at h
      unfold execLineEnd at h
      dsimp only at h
      split at h <;> cases h <;> exact .of_none (by simp)
    case frameEnd =>
      change execFrameEnd s = .next t at h
      unfold execFrameEnd at h
      dsimp only at h
      (repeat' split at h) <;> cases h
      · exact .of_none hfinish
      · exact .of_none (State.takeFrameEnd_inHand (by simp))
      · exact .of_none (State.takeFrameEnd_inHand (by simp))
    case setInput =>
      cases h
      refine serve (fun p => ?_)
      rcases s.setInput_cases p with heq | ⟨hstate, w, h, depth, -, -, -, -, -, heq⟩ <;> rw [heq]
      · exact hs
      · have hnone := State.InHandLaw.eq_none hs (by simp [hstate])
        exact .of_none hnone
    case startInput =>
      cases h
      refine serve (fun p => ?_)
      unfold State.startInput
      split
      · rename_i hstate
        have hnone := State.InHandLaw.eq_none hs (by simp [hstate])
        exact .of_none hnone
      · exact hs
    case stopInputNow =>
      cases h
      refine serve (fun p => ?_)
      unfold State.stopInputNow
      split
      · refine .of_none ?_
        rw [State.stopReply, s.stopNow_inHand]
        split
        · rename_i hstate; exact hs.eq_none (by simp [hstate])
        · rfl
      · exact hs
    case stopInputFrameEnd =>
      cases h
      refine serve (fun p => ?_)
      unfold State.stopInputFrameEnd
      split
      · unfold State.stopAtFrameEnd
        split
        · exact hs
        · exact .of_none s.enterStopped_inHand
        · exact hs
        · exact hs
      · exact hs
    case pinReset | frameSent | linkBreak =>
      rcases exec_mayReset rfl h with ⟨cause, rfl⟩ | heq
      · exact .of_none rfl
      · rw [heq]; exact hs

/-! ### O56 -/

/-- A command's effect on a law that reads nothing of the queue of commands, and the going on of the pixel in hand, make up a step. -/
theorem step_keeps_law {P : State → Prop} (hexec : ∀ {c s t}, exec c s = .next t → P s → P t) (hserve : ∀ {s}, P s → P s.servePixel)
    (hrest : ∀ {s rest}, P s → P { s with pending := rest }) {s t : State} (hs : P s) (h : step s = .next t) : P t := by
  rcases step_cases h with rfl | ⟨c, rest, -, h⟩
  · exact hserve hs
  · exact hexec h (hrest hs)

/-- Settles O56: each of the three laws is kept by every command and by the going on of the pixel in hand. -/
theorem stepsKeepFramerAndEntryLaws : Obligations.StepsKeepFramerAndEntryLaws :=
  ⟨fun _ _ => step_keeps_law (P := State.FramerLaw) (fun h hs => hs.exec h)
      (fun {s} hs => hs.of_raises (.servePixel s) s.servePixel_framer) (fun hs => hs),
    fun _ _ => step_keeps_law (P := State.EntriesDefined) (fun h hs => State.EntriesDefined.exec hs h)
      (fun {s} hs => .of_raises (.servePixel s) hs) (fun hs => hs),
    fun _ _ => step_keeps_law (P := State.InHandLaw) (fun h hs => State.InHandLaw.exec hs h) (fun hs => State.InHandLaw.servePixel hs)
      (fun hs => hs)⟩

end Sys2Proof.Machine
end

section
/-! SUPPORT. The law of the drain: drains without a head are at rest, and the ACTIVE capture of a drain is its head (O57). -/

namespace Sys2Proof.Machine

variable {D : Prop} {ph : Phase}

/-! ### Drains at rest -/

/-- A drain is at rest without a head, and an IDLE one has an empty queue. -/
structure Drain.Rests (x : Drain) : Prop where
  restful : x.restful = true
  idle : x.state = .idle → x.queue = []

theorem State.drainsAtRest_iff {s : State} : s.DrainsAtRest ↔ ∀ d, (s.drain d).Rests :=
  ⟨fun ⟨hA, hB, hA', hB'⟩ d => by cases d; exacts [⟨hA, hA'⟩, ⟨hB, hB'⟩],
    fun h => ⟨(h .a).restful, (h .b).restful, (h .a).idle, (h .b).idle⟩⟩

theorem Drain.Rests.adjusts {x y : Drain} (hx : x.Rests) (h : x.Adjusts y) : y.Rests :=
  ⟨h.restful hx.restful, fun hy => by rw [h.queue]; exact (h.idle hy).elim hx.idle id⟩

theorem Drain.Rests.drop {x : Drain} (hx : x.Rests) (slot : Nat) : (x.drop slot).Rests :=
  ⟨hx.restful, fun h => by rw [Drain.drop]; simp [hx.idle h]⟩

/-- A drain with a head rests in this sense whatever else it holds. -/
theorem Drain.Rests.of_hasHead {x : Drain} (h : x.hasHead = true) : x.Rests :=
  ⟨by simp [Drain.restful, h], fun hidle => by simp [Drain.hasHead, hidle] at h⟩

theorem Drain.Rests.atRest (x : Drain) {st : DrainState} (h : st = .idle → x.queue = []) : (x.atRest st).Rests :=
  ⟨by simp [Drain.restful, Drain.atRest], h⟩

theorem State.Rests.setDrain {s : State} (hs : ∀ e, (s.drain e).Rests) {d : DrainId} {y : Drain} (hy : y.Rests) :
    ∀ e, ((s.setDrain d y).drain e).Rests := by
  intro e
  by_cases he : e = d
  · subst he; rwa [State.drain_setDrain]
  · rw [State.setDrain_drain_other _ _ he]; exact hs e

theorem State.Rests.free {s : State} (hs : ∀ e, (s.drain e).Rests) (c : Capture) : ∀ e, ((s.freeCapture c).drain e).Rests :=
  fun e => by rw [State.freeCapture_drain]; exact (hs e).drop c.slot

/-- What a promotion makes of the drains: the drain stands at its head with header word 0 presented next. -/
theorem State.promote_drain (s : State) {d : DrainId} {slot : Nat} {rest : List Nat} (hq : (s.drain d).queue = slot :: rest) :
    ∃ y, { s.drain d with state := .streaming, position := some (.header 0), wordsTaken := 0 }.Adjusts y ∧
      s.promote d = (s.updateCapture slot (fun c => { c with delivery := .active })).setDrain d y := by
  have hpromote : s.promote d = ((s.updateCapture slot (fun c => { c with delivery := .active })).setDrain d
      { s.drain d with state := .streaming, position := some (.header 0), wordsTaken := 0 }).evaluateBurst d := by
    unfold State.promote
    rw [hq]
  obtain ⟨y, hy, -, heq⟩ := ((s.updateCapture slot (fun c => { c with delivery := .active })).setDrain d
      { s.drain d with state := .streaming, position := some (.header 0), wordsTaken := 0 }).evaluateBurst_adjusts d
  rw [State.drain_setDrain] at hy
  exact ⟨y, hy, by rw [hpromote, heq, State.setDrain_setDrain]⟩

theorem State.promote_of_empty (s : State) {d : DrainId} (hq : (s.drain d).queue = []) : s.promote d = s := by
  unfold State.promote
  rw [hq]

/-- After a promotion the other drains rest as before, and so does `d` where it has an entry. -/
theorem State.Rests.promote {s : State} {d : DrainId} (hs : ∀ e, e ≠ d → (s.drain e).Rests)
    (hd : (s.drain d).queue = [] → (s.drain d).Rests) : ∀ e, ((s.promote d).drain e).Rests := by
  intro e
  cases hq : (s.drain d).queue with
  | nil =>
    rw [s.promote_of_empty hq]
    by_cases he : e = d
    · subst he; exact hd hq
    · exact hs e he
  | cons slot rest =>
    obtain ⟨y, hy, heq⟩ := s.promote_drain hq
    rw [heq]
    by_cases he : e = d
    · subst he
      rw [State.drain_setDrain]
      exact .of_hasHead (by rw [hy.hasHead]; rfl)
    · rw [State.setDrain_drain_other _ _ he, State.updateCapture_drain]
      exact hs e he

theorem State.Rests.moveOn {s : State} {d : DrainId} (hs : ∀ e, e ≠ d → (s.drain e).Rests) : ∀ e, ((s.moveOn d).drain e).Rests := by
  have rest : ∀ st, (st = .idle → (s.drain d).queue = []) → ∀ e, ((s.setDrain d ((s.drain d).atRest st)).drain e).Rests := by
    intro st hst e
    by_cases he : e = d
    · subst he; rw [State.drain_setDrain]; exact .atRest _ hst
    · rw [State.setDrain_drain_other _ _ he]; exact hs e he
  unfold State.moveOn
  split
  · exact rest .disabled (by simp)
  · split
    · rename_i hq; exact rest .idle (fun _ => hq)
    · rename_i slot more hq
      exact State.Rests.promote hs (fun h => by rw [h] at hq; cases hq)

theorem State.Rests.joinQueue {s : State} (hs : ∀ e, (s.drain e).Rests) (d : DrainId) (slot : Nat) :
    ∀ e, ((s.joinQueue d slot).drain e).Rests := by
  have others : ∀ e, e ≠ d → ((s.setDrain d { s.drain d with queue := (s.drain d).queue ++ [slot] }).drain e).Rests :=
    fun e he => by rw [State.setDrain_drain_other _ _ he]; exact hs e
  unfold State.joinQueue
  dsimp only
  split
  · exact State.Rests.promote others (fun h => by simp at h)
  · rename_i hidle
    exact State.Rests.setDrain (y := { s.drain d with queue := (s.drain d).queue ++ [slot] }) hs
      ⟨(hs d).restful, fun h => absurd h hidle⟩

theorem State.Rests.of_eq {s t : State} (hs : ∀ e, (s.drain e).Rests) (h : ∀ e, t.drain e = s.drain e) : ∀ e, (t.drain e).Rests :=
  fun e => by rw [h e]; exact hs e

theorem Effect.keeps_rests {s t : State} (h : Effect D ph s t) (hs : ∀ e, (s.drain e).Rests) : ∀ e, (t.drain e).Rests := by
  cases h with
  | quiet h => exact State.Rests.of_eq hs h.drain
  | astray _ _ hA hB _ => exact State.Rests.of_eq hs (fun e => by cases e; exacts [hA, hB])
  | adjust d y h => exact State.Rests.setDrain hs ((hs d).adjusts h)
  | free c _ _ => exact State.Rests.free hs c
  | mark c reason _ _ => exact State.Rests.of_eq hs (fun e => by cases e <;> rfl)
  | fill c _ _ => exact State.Rests.of_eq hs (fun e => by cases e <;> rfl)
  | fetch c _ _ _ => exact State.Rests.of_eq hs (fun e => by cases e <;> rfl)
  | promote d h => exact State.Rests.promote (fun e _ => hs e) (fun _ => hs d)
  | endHead d reason st h hst =>
    have hne : st ≠ .idle := by rcases hst with rfl | rfl <;> simp
    rcases s.endHead_cases d reason st with ⟨-, heq⟩ | ⟨c, u, -, hu, heq⟩ <;> rw [heq]
    · exact State.Rests.setDrain hs (.atRest _ (fun h => absurd h hne))
    · exact State.Rests.setDrain (State.Rests.of_eq (State.Rests.free hs c) hu.drain) (.atRest _ (fun h => absurd h hne))
  | send d c k _ => exact State.Rests.of_eq hs (fun e => s.sendDataWord_drain c k e)
  | lastTake d c _ _ => exact State.Rests.moveOn (fun e _ => State.Rests.free hs c e)
  | @write s u c c' v _ hu _ =>
    have hu' : ∀ e, ((u.storePixel c' v).drain e).Rests := by
      refine State.Rests.of_eq hs (fun e => ?_)
      have hstored : (u.storePixel c' v).drain e = u.drain e := by cases e <;> rfl
      rcases hu with ⟨-, rfl⟩ | ⟨-, -, rfl⟩
      · exact hstored
      · rw [hstored]; cases e <;> simp [State.drain]
    rcases (u.storePixel c' v).tellDrainOfWrite_cases c' with ⟨d, -, -, heq⟩ | ⟨-, d, y, hy, heq⟩ <;> rw [heq]
    · exact State.Rests.joinQueue hu' d _
    · exact State.Rests.setDrain hu' ((hu' d).adjusts hy)
  | opens slot r seq d _ => exact State.Rests.of_eq hs (fun e => by cases e <;> rfl)
  | release c _ _ _ => exact State.Rests.free hs c
  | returned _ _ hA hB => exact State.Rests.of_eq hs (fun e => by cases e; exacts [hA, hB])
  | reset cause =>
    intro e
    rw [State.partReset_drain]
    exact ⟨rfl, fun _ => rfl⟩

/-! ### The law of a drain, by membership -/

/-- The ACTIVE captures of drain `d` stand first in its queue, and then the drain has a head. -/
def State.ActiveFirst (s : State) (d : DrainId) : Prop :=
  ∀ c ∈ s.captures, c.route = .drain d → c.delivery = .active → (s.drain d).hasHead = true ∧ (s.drain d).queue.head? = some c.slot

/-- A drain with a head has an ACTIVE record first in its queue and a position of the layout. -/
def State.HeadInPlace (s : State) (d : DrainId) : Prop :=
  (s.drain d).hasHead = true → (∃ c ∈ s.captures, c.delivery = .active ∧ (s.drain d).queue.head? = some c.slot) ∧
    ∃ p, (s.drain d).position = some p ∧ p.inLayout = true

/-- A queue holds no record twice, and none before its first byte. -/
def State.QueueWritten (s : State) (d : DrainId) : Prop :=
  (s.drain d).queue.Nodup ∧ ∀ c ∈ s.captures, c.slot ∈ (s.drain d).queue → c.bytesWritten ≠ 0

/-- With distinct records the head of a drain is the record that its queue names first. -/
theorem State.RecordsDistinct.head_eq_some_iff {s : State} (hs : s.RecordsDistinct) {d : DrainId} {c : Capture} :
    s.head d = some c ↔ c ∈ s.captures ∧ (s.drain d).queue.head? = some c.slot := by
  refine ⟨State.head_mem, fun ⟨hc, hq⟩ => ?_⟩
  unfold State.head
  split
  · rename_i h; rw [h] at hq; cases hq
  · rename_i slot rest h
    rw [h] at hq
    obtain rfl : slot = c.slot := Option.some.inj hq
    exact hs.capture_eq hc

theorem State.RecordsDistinct.drainLawOf_iff {s : State} (hs : s.RecordsDistinct) (d : DrainId) :
    s.DrainLawOf d ↔ s.QueueWritten d ∧ s.ActiveFirst d ∧ s.HeadInPlace d := by
  have hstands : s.headStands d = true ↔ (∃ c ∈ s.captures, c.delivery = .active ∧ (s.drain d).queue.head? = some c.slot) ∧
      ∃ p, (s.drain d).position = some p ∧ p.inLayout = true := by
    unfold State.headStands
    constructor
    · intro h
      split at h
      · rename_i c p hc hp
        obtain ⟨hmem, hq⟩ := hs.head_eq_some_iff.mp hc
        obtain ⟨ha, hl⟩ := Bool.and_eq_true_iff.mp h
        exact ⟨⟨c, hmem, by simpa using ha, hq⟩, p, hp, hl⟩
      · cases h
    · rintro ⟨⟨c, hc, ha, hq⟩, p, hp, hl⟩
      rw [hs.head_eq_some_iff.mpr ⟨hc, hq⟩, hp]
      simp [ha, hl]
  constructor
  · rintro ⟨h1, h2, h3, h4⟩
    refine ⟨⟨h1, h2⟩, fun c hc hr ha => ?_, fun hh => hstands.mp (h4 hh)⟩
    obtain ⟨hh, hhead⟩ := h3 c hc hr ha
    exact ⟨hh, (hs.head_eq_some_iff.mp hhead).2⟩
  · rintro ⟨⟨h1, h2⟩, h3, h4⟩
    refine ⟨h1, h2, fun c hc hr ha => ?_, fun hh => hstands.mpr (h4 hh)⟩
    obtain ⟨hh, hq⟩ := h3 c hc hr ha
    exact ⟨hh, hs.head_eq_some_iff.mpr ⟨hc, hq⟩⟩

/-- The laws under which the law of the drains is kept, and the law. -/
structure State.DrainsKept (s : State) : Prop where
  directory : s.DirectoryLaw
  whole : s.WholePixels
  rests : ∀ d, (s.drain d).Rests
  written : ∀ d, s.QueueWritten d
  first : ∀ d, s.ActiveFirst d
  head : ∀ d, s.HeadInPlace d

/-- A record named by a drain's queue is of its route. -/
theorem State.DirectoryLaw.route_of_queue {s : State} (h : s.DirectoryLaw) {d : DrainId} {c : Capture} (hc : c ∈ s.captures)
    (hq : c.slot ∈ (s.drain d).queue) : c.route = .drain d := by
  obtain ⟨x, hx, hslot, hroute⟩ := State.queuesRouted_iff.mp h.2.2 d _ hq
  rw [h.1.eq_of_slot hx hc hslot.symm]
  exact hroute

/-! ### Changes of one record or of one drain -/

/-- Records that change and keep number and route, do not lose their bytes, and become or stay ACTIVE as the law allows. -/
theorem State.DrainsKept.law_of_map {s t : State} (hs : s.DrainsKept) {f : Capture → Capture} (hc : t.captures = s.captures.map f)
    (hd : ∀ d, t.drain d = s.drain d) (hslot : ∀ x ∈ s.captures, (f x).slot = x.slot ∧ (f x).route = x.route)
    (hbytes : ∀ x ∈ s.captures, x.bytesWritten ≠ 0 → (f x).bytesWritten ≠ 0)
    (hactive : ∀ x ∈ s.captures, ∀ d, x.route = .drain d → (f x).delivery = x.delivery) :
    ∀ d, t.QueueWritten d ∧ t.ActiveFirst d ∧ t.HeadInPlace d := by
  intro d
  unfold State.QueueWritten State.ActiveFirst State.HeadInPlace
  rw [hd d, hc]
  refine ⟨⟨(hs.written d).1, fun y hy hq => ?_⟩, fun y hy hr ha => ?_, fun hh => ?_⟩
  · obtain ⟨x, hx, rfl⟩ := List.mem_map.mp hy
    rw [(hslot x hx).1] at hq
    exact hbytes x hx ((hs.written d).2 x hx hq)
  · obtain ⟨x, hx, rfl⟩ := List.mem_map.mp hy
    rw [(hslot x hx).2] at hr
    rw [(hslot x hx).1]
    rw [hactive x hx d hr] at ha
    exact hs.first d x hx hr ha
  · obtain ⟨⟨x, hx, ha, hq⟩, hp⟩ := hs.head d hh
    have hroute := hs.directory.route_of_queue hx (List.mem_of_head? hq)
    exact ⟨⟨f x, List.mem_map_of_mem hx, (hactive x hx d hroute).trans ha, hq.trans (by rw [(hslot x hx).1])⟩, hp⟩

theorem State.DrainsKept.law_of_update {s t : State} (hs : s.DrainsKept) {c : Capture} (hmem : c ∈ s.captures) {f : Capture → Capture}
    (hc : t.captures = s.captures.map (fun x => if x.slot = c.slot then f x else x)) (hd : ∀ d, t.drain d = s.drain d)
    (hslot : (f c).slot = c.slot ∧ (f c).route = c.route) (hbytes : c.bytesWritten ≠ 0 → (f c).bytesWritten ≠ 0)
    (hactive : ∀ d, c.route = .drain d → (f c).delivery = c.delivery) : ∀ d, t.QueueWritten d ∧ t.ActiveFirst d ∧ t.HeadInPlace d := by
  refine hs.law_of_map hc hd (fun x hx => ?_) (fun x hx => ?_) (fun x hx => ?_)
  all_goals
    by_cases hxc : x.slot = c.slot
    · obtain rfl := hs.directory.1.eq_of_slot hmem hx hxc
      simpa using by assumption
    · simp [hxc]

/-- The three parts of the law of a drain. -/
def State.DrainLawful (s : State) (d : DrainId) : Prop := s.QueueWritten d ∧ s.ActiveFirst d ∧ s.HeadInPlace d

theorem State.DrainsKept.lawful {s : State} (hs : s.DrainsKept) (d : DrainId) : s.DrainLawful d := ⟨hs.written d, hs.first d, hs.head d⟩

theorem State.DrainLawful.of_eq {s t : State} {d : DrainId} (hs : s.DrainLawful d) (hc : t.captures = s.captures)
    (hd : t.drain d = s.drain d) : t.DrainLawful d := by
  unfold State.DrainLawful State.QueueWritten State.ActiveFirst State.HeadInPlace at *
  rwa [hc, hd]

theorem State.DrainLawful.adjusts {s : State} {d : DrainId} (hs : ∀ e, s.DrainLawful e) {y : Drain} (h : (s.drain d).Adjusts y) :
    ∀ e, (s.setDrain d y).DrainLawful e := by
  intro e
  by_cases he : e = d
  · subst he
    obtain ⟨⟨hnodup, hwritten⟩, hfirst, hhead⟩ := hs e
    unfold State.DrainLawful State.QueueWritten State.ActiveFirst State.HeadInPlace at *
    rw [State.drain_setDrain, State.setDrain_captures, h.queue, h.hasHead]
    refine ⟨⟨hnodup, hwritten⟩, hfirst, fun hh => ?_⟩
    obtain ⟨hrecord, p, hp, hl⟩ := hhead hh
    exact ⟨hrecord, h.position p hp hl⟩
  · exact (hs e).of_eq (s.setDrain_captures d y) (s.setDrain_drain_other y he)

theorem head?_filter_of_pos {l : List Nat} {n : Nat} {p : Nat → Bool} (h : l.head? = some n) (hp : p n = true) :
    (l.filter p).head? = some n := by
  cases l with
  | nil => cases h
  | cons a l =>
    obtain rfl : a = n := Option.some.inj h
    rw [List.filter_cons_of_pos hp]
    rfl

/-- A free reaches the law of the drains of which the record is not the ACTIVE head. -/
theorem State.DrainsKept.free {s : State} (hs : s.DrainsKept) {c : Capture} (hc : c ∈ s.captures) (e : DrainId) :
    (s.freeCapture c).QueueWritten e ∧
      ((c.delivery = .active → c.route ≠ .drain e) → (s.freeCapture c).DrainLawful e) := by
  have hwritten : (s.freeCapture c).QueueWritten e := by
    unfold State.QueueWritten
    rw [State.freeCapture_drain]
    refine ⟨(hs.written e).1.filter _, fun x hx hq => ?_⟩
    exact (hs.written e).2 x (List.mem_filter.mp hx).1 (List.mem_filter.mp hq).1
  refine ⟨hwritten, fun hne => ⟨hwritten, fun x hx hr ha => ?_, fun hh => ?_⟩⟩
  · obtain ⟨hx, hslot⟩ := List.mem_filter.mp hx
    obtain ⟨hh, hq⟩ := hs.first e x hx hr ha
    rw [State.freeCapture_drain]
    exact ⟨hh, head?_filter_of_pos hq hslot⟩
  · rw [State.freeCapture_drain] at hh ⊢
    obtain ⟨⟨x, hx, ha, hq⟩, hp⟩ := hs.head e hh
    have hslot : x.slot ≠ c.slot := by
      intro h
      obtain rfl := hs.directory.1.eq_of_slot hc hx h
      exact hne ha (hs.directory.route_of_queue hx (List.mem_of_head? hq))
    exact ⟨⟨x, List.mem_filter.mpr ⟨hx, by simpa using hslot⟩, ha, head?_filter_of_pos hq (by simpa using hslot)⟩, hp⟩

/-! ### A drain between two heads -/

/-- The law of the drains but for drain `d`, whose captures are all WAITING. -/
structure State.DrainLawBut (s : State) (d : DrainId) : Prop where
  written : ∀ e, s.QueueWritten e
  others : ∀ e, e ≠ d → s.DrainLawful e
  waiting : ∀ c ∈ s.captures, c.route = .drain d → c.delivery ≠ .active

theorem State.DrainLawBut.of_eq {s t : State} {d : DrainId} (hs : s.DrainLawBut d) (hc : t.captures = s.captures)
    (hd : ∀ e, t.drain e = s.drain e) : t.DrainLawBut d := by
  refine ⟨fun e => ?_, fun e he => (hs.others e he).of_eq hc (hd e), by rw [hc]; exact hs.waiting⟩
  unfold State.QueueWritten
  rw [hc, hd]
  exact hs.written e

/-- A drain without a head keeps the law. -/
theorem State.DrainLawBut.setDrain {s : State} {d : DrainId} (hs : s.DrainLawBut d) {y : Drain} (hq : y.queue = (s.drain d).queue)
    (hh : y.hasHead = false) : ∀ e, (s.setDrain d y).DrainLawful e := by
  intro e
  by_cases he : e = d
  · subst he
    have hwritten := hs.written e
    unfold State.DrainLawful State.QueueWritten State.ActiveFirst State.HeadInPlace at *
    rw [State.drain_setDrain, State.setDrain_captures, hq, hh]
    exact ⟨hwritten, fun c hc hr ha => absurd ha (hs.waiting c hc hr), fun h => by cases h⟩
  · exact (hs.others e he).of_eq (s.setDrain_captures d y) (s.setDrain_drain_other y he)

/-- A promotion makes its entry the ACTIVE head, and gives the drain a position. -/
theorem State.DrainLawBut.promote {s : State} {d : DrainId} (hs : s.DrainLawBut d) (hdistinct : s.RecordsDistinct)
    (hrouted : ∀ n ∈ (s.drain d).queue, ∃ c ∈ s.captures, c.slot = n ∧ c.route = .drain d) (hne : (s.drain d).queue ≠ []) :
    ∀ e, (s.promote d).DrainLawful e := by
  obtain ⟨slot, rest, hq⟩ := List.exists_cons_of_ne_nil hne
  obtain ⟨y, hy, heq⟩ := s.promote_drain hq
  obtain ⟨c, hc, rfl, hroute⟩ := hrouted slot (by rw [hq]; exact List.mem_cons_self)
  have horigin : ∀ z ∈ (s.promote d).captures, ∃ x ∈ s.captures,
      z = (if x.slot = c.slot then { x with delivery := .active } else x) ∧ z.slot = x.slot ∧ z.route = x.route ∧
        z.bytesWritten = x.bytesWritten := by
    intro z hz
    rw [heq, State.setDrain_captures, State.updateCapture_captures] at hz
    obtain ⟨x, hx, rfl⟩ := List.mem_map.mp hz
    exact ⟨x, hx, rfl, by split <;> rfl, by split <;> rfl, by split <;> rfl⟩
  have himage : ∀ x ∈ s.captures, (if x.slot = c.slot then { x with delivery := .active } else x) ∈ (s.promote d).captures := by
    intro x hx
    rw [heq, State.setDrain_captures, State.updateCapture_captures]
    exact List.mem_map_of_mem hx
  have hwritten : ∀ e, (s.promote d).QueueWritten e := by
    intro e
    refine ⟨by rw [State.promote_queue]; exact (hs.written e).1, fun z hz hin => ?_⟩
    obtain ⟨x, hx, -, hslot, -, hbytes⟩ := horigin z hz
    rw [State.promote_queue, hslot] at hin
    exact hbytes ▸ (hs.written e).2 x hx hin
  intro e
  refine ⟨hwritten e, fun z hz hr ha => ?_, fun hh => ?_⟩
  · obtain ⟨x, hx, hzx, hslot, hroute', -⟩ := horigin z hz
    by_cases he : e = d
    · subst he
      have hxc : x.slot = c.slot := by
        by_contra hne'
        rw [hzx, if_neg hne'] at ha hr
        exact hs.waiting x hx hr ha
      rw [State.promote_queue, hq, hslot, hxc, heq, State.drain_setDrain, hy.hasHead]
      exact ⟨rfl, rfl⟩
    · have hxc : x.slot ≠ c.slot := by
        intro hxc
        obtain rfl := hdistinct.eq_of_slot hc hx hxc
        rw [hroute', hroute] at hr
        exact he (Route.drain.inj hr).symm
      rw [hzx, if_neg hxc] at hr ha ⊢
      rw [State.promote_queue, heq, State.setDrain_drain_other _ _ he, State.updateCapture_drain]
      exact (hs.others e he).2.1 x hx hr ha
  · by_cases he : e = d
    · subst he
      refine ⟨⟨_, himage c hc, by simp, by rw [State.promote_queue, hq]; simp⟩, ?_⟩
      rw [heq, State.drain_setDrain]
      exact hy.position (.header 0) rfl rfl
    · have hd : (s.promote d).drain e = s.drain e := by rw [heq, State.setDrain_drain_other _ _ he, State.updateCapture_drain]
      rw [hd] at hh ⊢
      obtain ⟨⟨x, hx, ha, hqx⟩, hp⟩ := (hs.others e he).2.2 hh
      refine ⟨⟨_, himage x hx, ?_, ?_⟩, hp⟩
      · split
        · rfl
        · exact ha
      · rw [hqx]; split <;> rfl

/-- Without a head no capture of the drain is ACTIVE. -/
theorem State.DrainLawBut.of_lawful {s : State} {d : DrainId} (hs : ∀ e, s.DrainLawful e) (hh : (s.drain d).hasHead = false) :
    s.DrainLawBut d :=
  ⟨fun e => (hs e).1, fun e _ => hs e, fun c hc hr ha => by rw [((hs d).2.1 c hc hr ha).1] at hh; cases hh⟩

/-- The free of the ACTIVE head of a drain leaves no other ACTIVE capture of its route. -/
theorem State.DrainsKept.but_of_freeHead {s : State} (hs : s.DrainsKept) {d : DrainId} {c : Capture} (hc : s.head d = some c) :
    (s.freeCapture c).DrainLawBut d := by
  obtain ⟨hmem, hq⟩ := State.head_mem hc
  have hroute := hs.directory.route_of_queue hmem (List.mem_of_head? hq)
  refine ⟨fun e => (hs.free hmem e).1, fun e he => (hs.free hmem e).2 (fun _ h => ?_), fun x hx hr ha => ?_⟩
  · rw [hroute] at h
    exact he (Route.drain.inj h).symm
  · obtain ⟨hx, hslot⟩ := List.mem_filter.mp hx
    rw [(hs.first d x hx hr ha).2] at hq
    simp [Option.some.inj hq] at hslot

theorem State.DrainLawBut.moveOn {s : State} {d : DrainId} (hs : s.DrainLawBut d) (hdistinct : s.RecordsDistinct)
    (hrouted : ∀ n ∈ (s.drain d).queue, ∃ c ∈ s.captures, c.slot = n ∧ c.route = .drain d) : ∀ e, (s.moveOn d).DrainLawful e := by
  unfold State.moveOn
  split
  · exact hs.setDrain (y := (s.drain d).atRest .disabled) rfl rfl
  · split
    · exact hs.setDrain (y := (s.drain d).atRest .idle) rfl rfl
    · rename_i hq
      exact hs.promote hdistinct hrouted (by rw [hq]; simp)

/-- A record that has been written and is not in the queue joins it. -/
theorem State.DrainLawful.joinQueue {s : State} (hs : ∀ e, s.DrainLawful e) (hdirectory : s.DirectoryLaw) {d : DrainId} {c : Capture}
    (hc : c ∈ s.captures) (hroute : c.route = .drain d) (hbytes : c.bytesWritten ≠ 0) (hout : c.slot ∉ (s.drain d).queue) :
    ∀ e, (s.joinQueue d c.slot).DrainLawful e := by
  have hjoined : ∀ e, (s.setDrain d { s.drain d with queue := (s.drain d).queue ++ [c.slot] }).DrainLawful e := by
    intro e
    by_cases he : e = d
    · subst he
      obtain ⟨⟨hnodup, hwritten⟩, hfirst, hhead⟩ := hs e
      unfold State.DrainLawful State.QueueWritten State.ActiveFirst State.HeadInPlace
      rw [State.drain_setDrain, State.setDrain_captures]
      refine ⟨⟨?_, fun x hx hin => ?_⟩, fun x hx hr ha => ?_, fun hh => ?_⟩
      · exact List.nodup_append.mpr ⟨hnodup, List.nodup_singleton _, fun a ha b hb => by
          rw [List.mem_singleton.mp hb]; exact fun h => hout (h ▸ ha)⟩
      · rcases List.mem_append.mp hin with hin | hin
        · exact hwritten x hx hin
        · rw [hdirectory.1.eq_of_slot hc hx (List.mem_singleton.mp hin)]; exact hbytes
      · obtain ⟨hh, hq⟩ := hfirst x hx hr ha
        exact ⟨hh, by rw [List.head?_append, hq]; rfl⟩
      · obtain ⟨⟨x, hx, ha, hq⟩, hp⟩ := hhead hh
        exact ⟨⟨x, hx, ha, by rw [List.head?_append, hq]; rfl⟩, hp⟩
    · exact (hs e).of_eq (s.setDrain_captures d _) (s.setDrain_drain_other _ he)
  unfold State.joinQueue
  dsimp only
  split
  · rename_i hidle
    refine (State.DrainLawBut.of_lawful (d := d) hjoined ?_).promote ?_ ?_ ?_
    · rw [State.drain_setDrain]; simp [Drain.hasHead, hidle]
    · rw [State.RecordsDistinct, State.setDrain_captures]; exact hdirectory.1
    · rw [State.drain_setDrain, State.setDrain_captures]
      intro n hn
      rcases List.mem_append.mp hn with hn | hn
      · exact State.queuesRouted_iff.mp hdirectory.2.2 d n hn
      · exact ⟨c, hc, (List.mem_singleton.mp hn).symm, hroute⟩
    · rw [State.drain_setDrain]; simp
  · exact hjoined

/-! ### The law along an effect -/

theorem Effect.keeps_drainLawful {s t : State} (hD : D) (h : Effect D ph s t) (hs : s.DrainsKept) : ∀ d, t.DrainLawful d := by
  have hlawful := hs.lawful
  have hdistinct := hs.directory.1
  cases h with
  | quiet h => exact fun d => (hlawful d).of_eq h.captures (h.drain d)
  | astray hD' => exact absurd hD hD'
  | adjust d y h => exact State.DrainLawful.adjusts hlawful h
  | free c hw hc => exact fun d => (hs.free (hc hD) d).2 (fun ha => by rw [hw] at ha; cases ha)
  | mark c reason ha hc =>
    exact hs.law_of_update (State.openCapture_eq_some (hc hD)).1 rfl (fun d => by cases d <;> rfl) ⟨rfl, rfl⟩ id (fun _ _ => rfl)
  | fill c hc hb =>
    exact hs.law_of_update (State.openCapture_eq_some hc).1 rfl (fun d => by cases d <;> rfl) ⟨rfl, rfl⟩ id (fun _ _ => rfl)
  | fetch c hc hl hw =>
    exact hs.law_of_update hc rfl (fun d => by cases d <;> rfl) ⟨rfl, rfl⟩ id (fun d hr => by rw [hl] at hr; cases hr)
  | promote d h =>
    by_cases hq : (s.drain d).queue = []
    · rw [s.promote_of_empty hq]; exact hlawful
    · exact (State.DrainLawBut.of_lawful hlawful h).promote hdistinct (State.queuesRouted_iff.mp hs.directory.2.2 d) hq
  | endHead d reason st h hst =>
    have hrest : ∀ x : Drain, (x.atRest st).hasHead = false := fun x => by rcases hst with rfl | rfl <;> rfl
    obtain ⟨⟨x, hx, -, hq⟩, -⟩ := hs.head d h
    rcases s.endHead_cases d reason st with ⟨hnone, -⟩ | ⟨c, u, hc, hu, heq⟩
    · rw [hdistinct.head_eq_some_iff.mpr ⟨hx, hq⟩] at hnone; cases hnone
    · rw [heq]
      exact ((hs.but_of_freeHead hc).of_eq hu.captures hu.drain).setDrain (y := (u.drain d).atRest st) rfl (hrest _)
  | send d c k hc =>
    have hmem := (State.head_mem hc).1
    rw [State.sendDataWord_eq]
    split
    · exact hs.law_of_update hmem rfl (fun d => by cases d <;> rfl) ⟨rfl, rfl⟩ id (fun _ _ => rfl)
    · exact hs.law_of_update hmem rfl (fun d => by cases d <;> rfl) ⟨rfl, rfl⟩ id (fun _ _ => rfl)
  | lastTake d c hc hq =>
    have hfreed := hs.directory.free c
    exact (hs.but_of_freeHead hc).moveOn hfreed.1 (State.queuesRouted_iff.mp hfreed.2.2 d)
  | @write s u c c' v hc hu hc' =>
    obtain ⟨hmem, -, hfill⟩ := State.openCapture_eq_some (hc hD)
    obtain ⟨blocks, hgrant⟩ := hdistinct.writeGrant (hc hD) hu (hc' hD)
    have hbpp : c.bpp ≠ 0 := by rcases hs.whole c hmem with h | ⟨h, -⟩ <;> omega
    have hdrain : ∀ d, (u.storePixel c' v).drain d = s.drain d := fun d => by rw [← hgrant.drain d]; cases d <;> rfl
    have hstored : ∀ d, (u.storePixel c' v).DrainLawful d :=
      hs.law_of_update hmem (hgrant.stored v) hdrain ⟨rfl, rfl⟩ (fun _ => by simp [hbpp]) (fun _ _ => rfl)
    rcases (u.storePixel c' v).tellDrainOfWrite_cases c' with ⟨d, hr, hb, heq⟩ | ⟨-, d, y, hy, heq⟩ <;> rw [heq]
    · have hdirectory : (u.storePixel c' v).DirectoryLaw :=
        hs.directory.of_update hmem (hgrant.stored v) ⟨rfl, rfl, hs.directory.2.1 c hmem⟩ (fun d => by rw [hdrain d])
      have hrecord : { c with chain := c.chain ++ blocks, bytesWritten := c.bytesWritten + c.bpp } ∈ (u.storePixel c' v).captures := by
        rw [hgrant.stored v]
        exact List.mem_map.mpr ⟨c, hmem, by simp⟩
      have hroute : c.route = .drain d := by rw [hgrant.record] at hr; exact hr
      have hfirst : c.bytesWritten = 0 := by rw [hgrant.record] at hb; exact hb
      have hslot : c'.slot = c.slot := by rw [hgrant.record]
      rw [hslot]
      refine State.DrainLawful.joinQueue
        (c := { c with chain := c.chain ++ blocks, bytesWritten := c.bytesWritten + c.bpp }) hstored hdirectory hrecord hroute (by simp [hbpp]) ?_
      rw [hdrain d]
      exact fun hin => (hs.written d).2 c hmem hin hfirst
    · exact State.DrainLawful.adjusts hstored hy
  | opens slot r seq d hslot =>
    have hfresh : ∀ x ∈ s.captures, x.slot ≠ slot := (State.mem_freeRecords.mp hslot).2
    intro e
    obtain ⟨⟨hnodup, hwritten⟩, hfirst, hhead⟩ := hlawful e
    have hold : ∀ s' : State, (∀ x ∈ s.captures, x ∈ s'.captures) → s'.drain e = s.drain e → s'.HeadInPlace e := by
      intro s' hsub hd hh
      rw [hd] at hh ⊢
      obtain ⟨⟨x, hx, ha, hq⟩, hp⟩ := hhead hh
      exact ⟨⟨x, hsub x hx, ha, hq⟩, hp⟩
    refine ⟨⟨by cases e <;> exact hnodup, fun x hx hin => ?_⟩, fun x hx hr ha => ?_, ?_⟩
    · rcases List.mem_append.mp hx with hx | hx
      · exact hwritten x hx (by cases e <;> exact hin)
      · rw [List.mem_singleton.mp hx] at hin
        obtain ⟨y, hy, hslot', -⟩ := State.queuesRouted_iff.mp hs.directory.2.2 e slot (by cases e <;> exact hin)
        exact absurd hslot' (hfresh y hy)
    · rcases List.mem_append.mp hx with hx | hx
      · have := hfirst x hx hr ha
        cases e <;> exact this
      · rw [List.mem_singleton.mp hx] at ha; cases ha
    · exact hold _ (fun x hx => List.mem_append_left _ hx) (by cases e <;> rfl)
  | release c hc hl ha => exact fun d => (hs.free hc d).2 (fun _ => by rw [hl]; simp)
  | returned hm hc hA hB =>
    refine hs.law_of_map hc (fun d => by cases d; exacts [hA, hB]) (fun x _ => ?_) (fun x _ => ?_) (fun x _ d hr => ?_)
    · unfold Capture.returned; split <;> exact ⟨rfl, rfl⟩
    · unfold Capture.returned; split <;> exact id
    · unfold Capture.returned; rw [hr]; rfl
  | reset cause =>
    intro d
    refine ⟨⟨by rw [State.partReset_drain]; exact List.nodup_nil, fun x hx => absurd hx List.not_mem_nil⟩,
      fun x hx => absurd hx List.not_mem_nil, fun hh => ?_⟩
    rw [State.partReset_drain] at hh
    cases hh

theorem Effect.keeps_drains {s t : State} (hD : D) (h : Effect D ph s t) (hs : s.DrainsKept) : t.DrainsKept := by
  have hlawful := h.keeps_drainLawful hD hs
  exact ⟨h.keeps_directoryLaw hD hs.directory, h.keeps_wholePixels hD hs.directory.1 hs.whole, h.keeps_rests hs.rests,
    fun d => (hlawful d).1, fun d => (hlawful d).2.1, fun d => (hlawful d).2.2⟩

/-- Settles O57: every effect leaves a drain without a head at rest; and with distinct records, one ACTIVE head for each drain that has one. -/
theorem stepsKeepDrainsAtRest : Obligations.StepsKeepDrainsAtRest := by
  unfold Obligations.StepsKeepDrainsAtRest
  refine ⟨fun s t hs hstep => ?rest, fun s t hdirectory hwhole hrest hlaw hstep => ?law⟩
  case rest =>
    rw [State.drainsAtRest_iff] at hs ⊢
    exact step_keeps (D := False) (P := fun s => ∀ d, (s.drain d).Rests) (fun h => h.keeps_rests) False.elim hstep hs
  case law =>
    have hdistinct := hdirectory.1
    have hof : ∀ d, s.DrainLawful d := fun d => by
      cases d
      · exact (hdistinct.drainLawOf_iff .a).mp hlaw.1
      · exact (hdistinct.drainLawOf_iff .b).mp hlaw.2
    have hkept : s.DrainsKept := ⟨hdirectory, hwhole, State.drainsAtRest_iff.mp hrest, fun d => (hof d).1, fun d => (hof d).2.1,
      fun d => (hof d).2.2⟩
    have ht : t.DrainsKept := step_keeps (D := True) (fun h => h.keeps_drains trivial) (fun _ => hdistinct) hstep hkept
    exact ⟨(ht.directory.1.drainLawOf_iff .a).mpr (ht.lawful .a), (ht.directory.1.drainLawOf_iff .b).mpr (ht.lawful .b)⟩

end Sys2Proof.Machine
end

section
/-! SUPPORT. What becomes of a fetched capture and of a COMPLETE link capture: its record stays, and no write reaches its bytes (O59, O60). -/

namespace Sys2Proof.Machine

variable {D : Prop} {ph : Phase}

/-! ### A record in its place -/

/-- The record stands in the list, behind records that are among those with the given numbers, in their order. -/
def InPlace (x : Capture) (before : List Nat) (l : List Capture) : Prop :=
  ∃ front back, l = front ++ x :: back ∧ (front.map Capture.slot).Sublist before

theorem InPlace.mem {x : Capture} {before : List Nat} {l : List Capture} (h : InPlace x before l) : x ∈ l := by
  obtain ⟨front, back, rfl, -⟩ := h
  simp

theorem InPlace.filter {x : Capture} {before : List Nat} {l : List Capture} (h : InPlace x before l) {p : Capture → Bool}
    (hp : p x = true) : InPlace x before (l.filter p) := by
  obtain ⟨front, back, rfl, hfront⟩ := h
  exact ⟨front.filter p, back.filter p, by rw [List.filter_append, List.filter_cons_of_pos hp],
    (filter_slots_sublist front p).trans hfront⟩

theorem InPlace.map {x : Capture} {before : List Nat} {l : List Capture} (h : InPlace x before l) {f : Capture → Capture}
    (hx : f x = x) (hf : ∀ c, (f c).slot = c.slot) : InPlace x before (l.map f) := by
  obtain ⟨front, back, rfl, hfront⟩ := h
  refine ⟨front.map f, back.map f, by rw [List.map_append, List.map_cons, hx], ?_⟩
  rw [List.map_map, show Capture.slot ∘ f = Capture.slot from funext hf]
  exact hfront

theorem InPlace.append {x : Capture} {before : List Nat} {l : List Capture} (h : InPlace x before l) (l' : List Capture) :
    InPlace x before (l ++ l') := by
  obtain ⟨front, back, rfl, hfront⟩ := h
  exact ⟨front, back ++ l', by simp, hfront⟩

theorem InPlace.update {x : Capture} {before : List Nat} {l : List Capture} (h : InPlace x before l) {n : Nat} (hn : x.slot ≠ n)
    {f : Capture → Capture} (hf : ∀ c, (f c).slot = c.slot) : InPlace x before (l.map (fun c => if c.slot = n then f c else c)) :=
  h.map (if_neg hn) (fun c => by split; exacts [hf c, rfl])

theorem InPlace.drop {x : Capture} {before : List Nat} {l : List Capture} (h : InPlace x before l) {n : Nat} (hn : x.slot ≠ n) :
    InPlace x before (l.filter (fun c => c.slot ≠ n)) :=
  h.filter (by simpa using hn)

/-! ### A link capture is in no queue -/

theorem State.DirectoryLaw.link_not_queued {s : State} (hs : s.DirectoryLaw) {x : Capture} (hx : x ∈ s.captures) (hl : x.route = .link)
    (d : DrainId) : x.slot ∉ (s.drain d).queue := by
  intro hin
  rw [hs.route_of_queue hx hin] at hl
  cases hl

/-- A link capture is no drain's head. -/
theorem State.DirectoryLaw.slot_ne_head {s : State} (hs : s.DirectoryLaw) {x c : Capture} (hx : x ∈ s.captures) (hl : x.route = .link)
    {d : DrainId} (hc : s.head d = some c) : x.slot ≠ c.slot := by
  intro h
  refine hs.link_not_queued hx hl d ?_
  rw [h]
  exact List.mem_of_head? (State.head_mem hc).2

theorem State.RecordsDistinct.slot_ne {s : State} (hs : s.RecordsDistinct) {x c : Capture} (hx : x ∈ s.captures) (hc : c ∈ s.captures)
    (h : x ≠ c) : x.slot ≠ c.slot := fun hslot => h (hs.eq_of_slot hc hx hslot)

/-- Promotions leave a link capture, which is in no queue. -/
theorem InPlace.promotes {s t : State} {x : Capture} {before : List Nat} (h : InPlace x before s.captures) (hl : x.route = .link)
    (hp : s.Promotes t) (ht : t.DirectoryLaw) : InPlace x before t.captures := by
  obtain ⟨-, f, hf, hcases⟩ := hp
  have hslot : ∀ c, (f c).slot = c.slot := fun c => by rcases hcases c with h | ⟨h, -⟩ <;> rw [h]
  rw [hf]
  refine h.map ?_ hslot
  rcases hcases x with hx | ⟨hx, d, hin⟩
  · exact hx
  · have hmem : f x ∈ t.captures := hf ▸ List.mem_map_of_mem h.mem
    exact absurd (hslot x ▸ hin) (ht.link_not_queued hmem (by rw [hx]; exact hl) d)

/-! ### The fetched capture (R97) -/

theorem Effect.keeps_inPlace {s t : State} (hD : D) (h : Effect D ph s t) (hph : ph ≠ .ending) (hs : s.DirectoryLaw) {x : Capture}
    {before : List Nat} (hl : x.route = .link) (ha : x.delivery = .active) (hx : InPlace x before s.captures) :
    InPlace x before t.captures := by
  have ht := h.keeps_directoryLaw hD hs
  have hcomplete : x.fill = .complete := by
    have hlegal := hs.2.1 x hx.mem
    unfold Capture.legal at hlegal
    rw [hl, ha] at hlegal
    cases hf : x.fill <;> simp_all
  have hopen : ∀ {c : Capture}, s.openCapture c.region = some c → x.slot ≠ c.slot := by
    intro c hc
    obtain ⟨hmem, -, hfill⟩ := State.openCapture_eq_some hc
    exact hs.1.slot_ne hx.mem hmem (fun h => by rw [h, hfill] at hcomplete; cases hcomplete)
  cases h with
  | quiet h => rw [h.captures]; exact hx
  | astray hD' => exact absurd hD hD'
  | adjust d y h => rw [State.setDrain_captures]; exact hx
  | free c hw hc => exact hx.drop (hs.1.slot_ne hx.mem (hc hD) (fun h => by rw [h, hw] at ha; cases ha))
  | mark c reason ha' hc => exact hx.update (hopen (hc hD)) (fun _ => rfl)
  | fill c hc hb => exact hx.update (hopen hc) (fun _ => rfl)
  | fetch c hc hl' hw =>
    refine hx.update (hs.1.slot_ne hx.mem hc (fun h => ?_)) (fun _ => rfl)
    rw [← h] at hw
    simp [Capture.isWaiting, ha] at hw
  | promote d h => exact hx.promotes hl (s.promote_promotes d) ht
  | endHead d reason st h hst =>
    rw [State.endHead_captures]
    split
    · exact hx
    · rename_i c hc
      exact hx.drop (hs.slot_ne_head hx.mem hl hc)
  | send d c k hc =>
    have hne := hs.slot_ne_head hx.mem hl hc
    rw [State.sendDataWord_eq]
    split
    · exact hx.update hne (fun _ => rfl)
    · exact hx.update hne (fun _ => rfl)
  | lastTake d c hc hq => exact InPlace.promotes (hx.drop (hs.slot_ne_head hx.mem hl hc)) hl (State.moveOn_promotes _ d) ht
  | @write s u c c' v hc hu hc' =>
    obtain ⟨blocks, hgrant⟩ := hs.1.writeGrant (hc hD) hu (hc' hD)
    refine InPlace.promotes (s := u.storePixel c' v) ?_ hl (State.tellDrainOfWrite_promotes _ _) ht
    rw [hgrant.stored v]
    exact hx.update (hopen (hc hD)) (fun _ => rfl)
  | opens slot r seq d hslot => exact hx.append _
  | release | returned | reset => exact absurd rfl hph

theorem Effects.keeps_inPlace {s t : State} (hD : D) (h : Effects D ph s t) (hph : ph ≠ .ending) (hs : s.DirectoryLaw) {x : Capture}
    {before : List Nat} (hl : x.route = .link) (ha : x.delivery = .active) (hx : InPlace x before s.captures) :
    t.DirectoryLaw ∧ InPlace x before t.captures :=
  h.keeps (P := fun t => t.DirectoryLaw ∧ InPlace x before t.captures)
    (fun h hs => ⟨h.keeps_directoryLaw hD hs.1, h.keeps_inPlace hD hph hs.1 hl ha hs.2⟩) ⟨hs, hx⟩

/-- Settles O59: no effect but those of RELEASE, a link break and a reset reaches an ACTIVE link capture. -/
theorem fetchedCaptureIsLeftAlone : Obligations.FetchedCaptureIsLeftAlone := by
  unfold Obligations.FetchedCaptureIsLeftAlone
  intro c s t x before after hs h hsplit hl ha hrelease hbreak hpin hsent
  have hx : InPlace x (before.map Capture.slot) s.captures := ⟨before, after, hsplit, .refl _⟩
  suffices hplace : InPlace x (before.map Capture.slot) t.captures by
    obtain ⟨front, back, heq, hsub⟩ := hplace
    exact ⟨front, back, heq, hsub⟩
  by_cases hc : c = .frameSent
  · subst hc
    rw [(exec_link_sameStore h (hsent rfl)).captures]
    exact hx
  · have hends : endsAlone c = false := by
      cases c <;> first | rfl | contradiction
    obtain ⟨u, hw, ho⟩ := Steps.exec (D := True) (fun _ => hs.1) hends h
    obtain ⟨hu, hxu⟩ := hw.keeps_inPlace trivial (by simp) hs hl ha hx
    exact (ho.keeps_inPlace trivial (by simp) hu hl ha hxu).2

/-! ### Blocks in one chain alone -/

theorem State.PoolLaw.nodup {s : State} (h : s.PoolLaw) : (s.memory.freePool ++ s.chainBlocks).Nodup :=
  (List.Perm.nodup_iff h).mpr List.nodup_range

theorem State.PoolLaw.free_not_chained {s : State} (h : s.PoolLaw) {b : Nat} (hb : b ∈ s.memory.freePool) {c : Capture}
    (hc : c ∈ s.captures) : b ∉ c.chain := fun hin =>
  (List.nodup_append'.mp h.nodup).2.2 hb (List.mem_flatMap.mpr ⟨c, hc, hin⟩)

theorem State.PoolLaw.chains_disjoint {s : State} (h : s.PoolLaw) {c x : Capture} (hc : c ∈ s.captures) (hx : x ∈ s.captures)
    (hne : c ≠ x) {b : Nat} (hb : b ∈ c.chain) : b ∉ x.chain := by
  have hpair := (List.nodup_flatMap.mp (List.nodup_append'.mp h.nodup).2.1).2
  have : Std.Symm (Function.onFun List.Disjoint Capture.chain) := ⟨fun _ _ h => h.symm⟩
  exact fun hin => hpair.forall hc hx hne hb hin

/-! ### The bytes of a write -/

theorem cellOf_inj {b b' i j : Nat} (hi : i < 512) (hj : j < 512) (h : cellOf b i = cellOf b' j) : b = b' ∧ i = j := by
  simp only [cellOf, Config.blockSize] at h
  omega

theorem read_foldl_write_other (b a : Nat) (l : List (Byte × Nat)) (cells : List Host.Cell) (h : ∀ x ∈ l, a ≠ cellOf b x.2) :
    Memory.read (l.foldl (fun m x => Memory.write m (cellOf b x.2) x.1) cells) a = Memory.read cells a := by
  induction l generalizing cells with
  | nil => rfl
  | cons x l ih =>
    rw [List.foldl_cons, ih _ (fun y hy => h y (List.mem_cons_of_mem _ hy)),
      Memory.read_write_other _ _ (h x List.mem_cons_self)]

/-- A pixel's bytes go to the last block of the chain, from offset bytes_written on, and every other cell keeps its byte. -/
theorem read_writePixelCells_other (cells : List Host.Cell) (c : Capture) (bytes : List Byte) (a : Nat)
    (h : ∀ b, c.chain.getLast? = some b → ∀ i < bytes.length, a ≠ cellOf b (c.bytesWritten % 512 + i)) :
    Memory.read (writePixelCells cells c bytes) a = Memory.read cells a := by
  unfold writePixelCells
  split
  · rfl
  · rename_i b hb
    refine read_foldl_write_other b a _ cells (fun x hx => ?_)
    obtain ⟨hlow, hhigh, -⟩ := List.mem_zipIdx hx
    have hi := h b hb (x.2 - c.bytesWritten % 512) (by simp only [Config.blockSize] at hlow hhigh; omega)
    rwa [Nat.add_sub_cancel' (by simpa [Config.blockSize] using hlow)] at hi

theorem length_pixelBytes {bpp : Nat} (h : bpp = 1 ∨ bpp = 2) (v : Half) : (pixelBytes bpp v).length = bpp := by
  rcases h with rfl | rfl <;> rfl

/-- A pixel of whole pixels' bytes lies within its block. -/
theorem Capture.WholePixels.room {c : Capture} (h : c.WholePixels) {i : Nat} (hi : i < c.bpp) : c.bytesWritten % 512 + i < 512 := by
  rcases h with h | ⟨h, heven⟩ <;> omega

theorem Capture.WholePixels.bpp_eq {c : Capture} (h : c.WholePixels) : c.bpp = 1 ∨ c.bpp = 2 := h.imp id And.left

/-! ### A COMPLETE link capture (R165) -/

/-- The record is there, but for its delivery state. -/
def Stands (x : Capture) (l : List Capture) : Prop := ∃ y ∈ l, y = { x with delivery := y.delivery }

/-- No record has its number. -/
def Gone (x : Capture) (l : List Capture) : Prop := ∀ y ∈ l, y.slot ≠ x.slot

theorem Stands.drop {x : Capture} {l : List Capture} (h : Stands x l) (n : Nat) :
    Stands x (l.filter (fun c => c.slot ≠ n)) ∨ Gone x (l.filter (fun c => c.slot ≠ n)) := by
  by_cases hn : x.slot = n
  · exact .inr (fun y hy => by rw [hn]; simpa using (List.mem_filter.mp hy).2)
  · obtain ⟨y, hy, heq⟩ := h
    have hslot : y.slot = x.slot := by rw [heq]
    exact .inl ⟨y, List.mem_filter.mpr ⟨hy, by simpa [hslot] using hn⟩, heq⟩

theorem Stands.map {x : Capture} {l : List Capture} (h : Stands x l) {f : Capture → Capture}
    (hf : ∀ y, y = { x with delivery := y.delivery } → f y = { y with delivery := (f y).delivery }) : Stands x (l.map f) := by
  obtain ⟨y, hy, heq⟩ := h
  refine ⟨f y, List.mem_map_of_mem hy, ?_⟩
  rw [hf y heq, heq]

theorem Stands.update {x : Capture} {l : List Capture} (h : Stands x l) {n : Nat} (hn : x.slot ≠ n) (f : Capture → Capture) :
    Stands x (l.map (fun c => if c.slot = n then f c else c)) :=
  h.map (fun y hy => by rw [if_neg (by rw [hy]; exact hn)])

theorem Stands.promotes {s t : State} {x : Capture} (h : Stands x s.captures) (hp : s.Promotes t) : Stands x t.captures := by
  obtain ⟨-, f, hf, hcases⟩ := hp
  rw [hf]
  exact h.map (fun y _ => by rcases hcases y with h | ⟨h, -⟩ <;> rw [h])

theorem Gone.promotes {s t : State} {x : Capture} (h : Gone x s.captures) (hp : s.Promotes t) : Gone x t.captures := by
  obtain ⟨-, f, hf, hcases⟩ := hp
  rw [hf]
  intro y hy
  obtain ⟨z, hz, rfl⟩ := List.mem_map.mp hy
  rcases hcases z with heq | ⟨heq, -⟩ <;> rw [heq] <;> exact h z hz

/-- An effect leaves a COMPLETE link capture but for its delivery state, or its number is no record's any more. -/
theorem Effect.keeps_stands {s t : State} (hD : D) (h : Effect D ph s t) (hs : s.DirectoryLaw) {x : Capture} (hl : x.route = .link)
    (hf : x.fill = .complete) (hx : Stands x s.captures) : Stands x t.captures ∨ Gone x t.captures := by
  obtain ⟨y, hy, heq⟩ := id hx
  have hslot : y.slot = x.slot := by rw [heq]
  have hopen : ∀ {c : Capture}, s.openCapture c.region = some c → x.slot ≠ c.slot := by
    intro c hc
    obtain ⟨hmem, -, hfill⟩ := State.openCapture_eq_some hc
    exact hslot ▸ hs.1.slot_ne hy hmem (fun h => by rw [← h, heq] at hfill; simp [hf] at hfill)
  have hhead : ∀ {d : DrainId} {c : Capture}, s.head d = some c → x.slot ≠ c.slot :=
    fun hc => hslot ▸ hs.slot_ne_head hy (by rw [heq]; exact hl) hc
  cases h with
  | quiet h => rw [h.captures]; exact .inl hx
  | astray hD' => exact absurd hD hD'
  | adjust d y h => rw [State.setDrain_captures]; exact .inl hx
  | free c hw hc => exact hx.drop _
  | mark c reason ha' hc => exact .inl (hx.update (hopen (hc hD)) _)
  | fill c hc hb => exact .inl (hx.update (hopen hc) _)
  | fetch c hc hl' hw => exact .inl (hx.map (fun y _ => by dsimp only; split <;> rfl))
  | promote d h => exact .inl (hx.promotes (s.promote_promotes d))
  | endHead d reason st h hst =>
    rw [State.endHead_captures]
    split
    · exact .inl hx
    · exact hx.drop _
  | send d c k hc =>
    rw [State.sendDataWord_eq]
    split
    · exact .inl (hx.update (hhead hc) _)
    · exact .inl (hx.update (hhead hc) _)
  | lastTake d c hc hq =>
    have hmoved := State.moveOn_promotes (s.freeCapture c) d
    exact (hx.drop c.slot).imp (fun h => Stands.promotes (s := s.freeCapture c) h hmoved)
      (fun h => Gone.promotes (s := s.freeCapture c) h hmoved)
  | @write s u c c' v hc hu hc' =>
    obtain ⟨blocks, hgrant⟩ := hs.1.writeGrant (hc hD) hu (hc' hD)
    refine .inl (Stands.promotes (s := u.storePixel c' v) ?_ (State.tellDrainOfWrite_promotes _ _))
    rw [hgrant.stored v]
    exact hx.update (hopen (hc hD)) _
  | opens slot r seq d hslot => exact .inl ⟨y, List.mem_append_left _ hy, heq⟩
  | release c hc hl ha => exact hx.drop _
  | returned hm hc hA hB =>
    rw [hc]
    exact .inl (hx.map (fun y _ => by unfold Capture.returned; split <;> rfl))
  | reset cause => exact .inr (fun z hz => absurd hz List.not_mem_nil)

/-- The bytes in the blocks of a chain. -/
def SameBytes (chain : List Nat) (cells cells' : List Host.Cell) : Prop :=
  ∀ b ∈ chain, ∀ i < 512, Memory.read cells' (cellOf b i) = Memory.read cells (cellOf b i)

theorem Effect.sameBytes {s t : State} (hD : D) (h : Effect D ph s t) (hs : s.PoolKept) (hw : s.WholePixels) {x : Capture}
    (hx : x ∈ s.captures) (hf : x.fill ≠ .filling) : SameBytes x.chain s.memory.cells t.memory.cells := by
  have same : ∀ {cells : List Host.Cell}, cells = s.memory.cells → SameBytes x.chain s.memory.cells cells :=
    fun h _ _ _ _ => by rw [h]
  cases h with
  | quiet h => exact same (by rw [h.memory])
  | astray hD' => exact absurd hD hD'
  | adjust d y h => exact same (by rw [State.setDrain_memory])
  | free c hw hc => exact same rfl
  | mark c reason ha hc => exact same rfl
  | fill c hc hb => exact same rfl
  | fetch c hc hl hw => exact same rfl
  | promote d h => exact same (by rw [State.promote_memory])
  | endHead d reason st h hst =>
    rcases s.endHead_cases d reason st with ⟨-, heq⟩ | ⟨c, u, -, hu, heq⟩ <;> rw [heq, State.setDrain_memory]
    · exact same rfl
    · exact same (by rw [hu.memory]; rfl)
  | send d c k hc => rw [State.sendDataWord_eq]; split <;> exact same rfl
  | lastTake d c hc hq => exact same (by rw [(State.moveOn_promotes _ d).1]; rfl)
  | @write s u c c' v hc hu hc' =>
    obtain ⟨hmem, -, hfill⟩ := State.openCapture_eq_some (hc hD)
    obtain ⟨blocks, hgrant⟩ := hs.2.writeGrant (hc hD) hu (hc' hD)
    have hne : c ≠ x := fun h => hf (h ▸ hfill)
    have hwhole : c.WholePixels := hw c hmem
    have hlast : ∀ b, c'.chain.getLast? = some b → b ∉ x.chain := by
      intro b hb
      have hin : b ∈ c.chain ++ blocks := by rw [hgrant.record] at hb; exact List.mem_of_getLast? hb
      rcases List.mem_append.mp hin with hin | hin
      · exact hs.1.chains_disjoint hmem hx hne hin
      · refine hs.1.free_not_chained ?_ hx
        rcases hgrant.blocks with ⟨-, h, -⟩ | ⟨-, b', h, hpool⟩ <;> rw [h] at hin
        · cases hin
        · rw [hpool, List.mem_singleton.mp hin]; exact List.mem_cons_self
    intro b hb i hi
    rw [(State.tellDrainOfWrite_promotes (u.storePixel c' v) c').1]
    have hstored := read_writePixelCells_other u.memory.cells c' (pixelBytes c'.bpp v) (cellOf b i) (fun b' hb' j hj h => ?_)
    · rw [← hgrant.cells]; exact hstored
    · rw [hgrant.record] at h hj
      rw [length_pixelBytes hwhole.bpp_eq] at hj
      exact hlast b' hb' ((cellOf_inj hi (hwhole.room hj) h).1 ▸ hb)
  | opens slot r seq d hslot => exact same rfl
  | release c hc hl ha => exact same rfl
  | returned hm hc hA hB => exact same (by rw [hm])
  | reset cause => exact same (s.partReset_kept cause).1

/-- Only an open takes a number again. -/
theorem Effect.keeps_gone {s t : State} (h : Effect D ph s t) (hph : ph ≠ .opening) {x : Capture} (hx : Gone x s.captures) :
    Gone x t.captures := by
  intro y hy
  rcases h.slots_cases with hsub | ⟨hopen, -⟩
  · obtain ⟨z, hz, hslot⟩ := List.mem_map.mp (hsub.subset (List.mem_map_of_mem hy))
    rw [← hslot]
    exact hx z hz
  · exact absurd hopen hph

/-- The number is free, or held by a record just opened, and is in no queue. -/
structure State.Reopened (s : State) (x : Capture) : Prop where
  record : ∀ y ∈ s.captures, y.slot = x.slot → y.fill = .filling ∧ y.bytesWritten = 0 ∧ y.delivery = .waiting
  queue : ∀ d, x.slot ∉ (s.drain d).queue

theorem State.Reopened.of_gone {s : State} {x : Capture} (hs : s.DirectoryLaw) (hx : Gone x s.captures) : s.Reopened x := by
  refine ⟨fun y hy h => absurd h (hx y hy), fun d hin => ?_⟩
  obtain ⟨y, hy, hslot, -⟩ := State.queuesRouted_iff.mp hs.2.2 d _ hin
  exact hx y hy hslot

/-- The queue only loses entries, and the records of the number stay as they are or leave. -/
theorem State.Reopened.of_sub {s t : State} {x : Capture} (hx : s.Reopened x)
    (hc : ∀ y ∈ t.captures, y.slot = x.slot → y ∈ s.captures) (hq : ∀ d, ∀ n ∈ (t.drain d).queue, n ∈ (s.drain d).queue) :
    t.Reopened x :=
  ⟨fun y hy h => hx.record y (hc y hy h) h, fun d hin => hx.queue d (hq d _ hin)⟩

theorem State.Reopened.of_update {s t : State} {x : Capture} (hx : s.Reopened x) {n : Nat} {f : Capture → Capture}
    (hc : t.captures = s.captures.map (fun c => if c.slot = n then f c else c)) (hf : ∀ c, (f c).slot = c.slot) (hn : x.slot ≠ n)
    (hd : ∀ d, (t.drain d).queue = (s.drain d).queue) : t.Reopened x := by
  refine hx.of_sub (fun y hy hslot => ?_) (fun d m hm => by rwa [hd d] at hm)
  rw [hc] at hy
  obtain ⟨z, hz, rfl⟩ := List.mem_map.mp hy
  by_cases hzn : z.slot = n
  · rw [if_pos hzn, hf, hzn] at hslot
    exact absurd hslot.symm hn
  · rwa [if_neg hzn]

theorem State.Reopened.free {s : State} {x : Capture} (hx : s.Reopened x) (c : Capture) : (s.freeCapture c).Reopened x :=
  hx.of_sub (fun _ hy _ => (List.mem_filter.mp hy).1) (fun d m hm => by
    rw [State.freeCapture_drain] at hm
    exact (List.mem_filter.mp hm).1)

theorem State.Reopened.setDrain {s : State} {x : Capture} (hx : s.Reopened x) {d : DrainId} {y : Drain}
    (hy : y.queue = (s.drain d).queue) : (s.setDrain d y).Reopened x :=
  hx.of_sub (fun z hz _ => by rwa [State.setDrain_captures] at hz) (fun e m hm => by rwa [s.setDrain_queue hy e] at hm)

theorem State.Reopened.promotes {s t : State} {x : Capture} (hx : s.Reopened x) (hp : s.Promotes t)
    (hq : ∀ d, (t.drain d).queue = (s.drain d).queue) : t.Reopened x := by
  obtain ⟨-, f, hf, hcases⟩ := hp
  refine hx.of_sub (fun y hy hslot => ?_) (fun d m hm => by rwa [hq d] at hm)
  rw [hf] at hy
  obtain ⟨z, hz, rfl⟩ := List.mem_map.mp hy
  rcases hcases z with h | ⟨h, d, hin⟩
  · rwa [h]
  · rw [h] at hslot
    exact absurd (hslot ▸ hq d ▸ hin) (hx.queue d)

/-- While records are opened, a record just opened is neither written nor presented. -/
theorem Effect.keeps_reopened {s t : State} (hD : D) (h : Effect D .opening s t) {x : Capture} (hx : s.Reopened x) : t.Reopened x := by
  have hqueued : ∀ {d c}, s.head d = some c → x.slot ≠ c.slot := fun {d c} hc h =>
    hx.queue d (h ▸ List.mem_of_head? (State.head_mem hc).2)
  cases h with
  | quiet h => exact hx.of_sub (fun y hy _ => h.captures ▸ hy) (fun d m hm => by rwa [h.drain d] at hm)
  | astray hD' => exact absurd hD hD'
  | adjust d y h => exact hx.setDrain h.queue
  | free c hw hc => exact hx.free c
  | mark c reason ha hc =>
    refine hx.of_update rfl (fun _ => rfl) (fun hslot => ?_) (fun d => by cases d <;> rfl)
    have hwaiting := (hx.record c (State.openCapture_eq_some (hc hD)).1 hslot.symm).2.2
    rw [ha] at hwaiting
    cases hwaiting
  | fetch c hc hl hw =>
    refine hx.of_update rfl (fun _ => rfl) (fun hslot => ?_) (fun d => by cases d <;> rfl)
    have hfilling := (hx.record c hc hslot.symm).1
    simp [Capture.isWaiting, hfilling] at hw
  | promote d h => exact hx.promotes (s.promote_promotes d) (s.promote_queue d)
  | endHead d reason st h hst =>
    rcases s.endHead_cases d reason st with ⟨-, heq⟩ | ⟨c, u, -, hu, heq⟩ <;> rw [heq]
    · exact hx.setDrain (y := (s.drain d).atRest st) rfl
    · have hfreed := hx.free c
      have hu' : u.Reopened x := hfreed.of_sub (fun y hy _ => hu.captures ▸ hy) (fun d m hm => by rwa [hu.drain d] at hm)
      exact hu'.setDrain (y := (u.drain d).atRest st) rfl
  | send d c k hc =>
    rw [State.sendDataWord_eq]
    split
    · exact hx.of_update rfl (fun _ => rfl) (hqueued hc) (fun d => by cases d <;> rfl)
    · exact hx.of_update rfl (fun _ => rfl) (hqueued hc) (fun d => by cases d <;> rfl)
  | lastTake d c hc hq => exact (hx.free c).promotes (State.moveOn_promotes _ d) (State.moveOn_queue _ d)
  | opens slot r seq d hslot =>
    refine ⟨fun y hy h => ?_, fun e => by cases e; exacts [hx.queue .a, hx.queue .b]⟩
    rcases List.mem_append.mp hy with hy | hy
    · exact hx.record y hy h
    · rw [List.mem_singleton.mp hy]; exact ⟨rfl, rfl, rfl⟩

/-- The laws that a run keeps, and a COMPLETE link capture that stands in it with its bytes. -/
structure State.Holds (x : Capture) (cells : List Host.Cell) (t : State) : Prop where
  pool : t.PoolKept
  directory : t.DirectoryLaw
  whole : t.WholePixels
  record : Stands x t.captures
  bytes : SameBytes x.chain cells t.memory.cells

theorem Effect.keeps_holds {s t : State} (hD : D) (h : Effect D ph s t) {x : Capture} {cells : List Host.Cell} (hl : x.route = .link)
    (hf : x.fill = .complete) (hs : State.Holds x cells s) : State.Holds x cells t ∨ t.DirectoryLaw ∧ Gone x t.captures := by
  have hdirectory := h.keeps_directoryLaw hD hs.directory
  refine (h.keeps_stands hD hs.directory hl hf hs.record).imp (fun hstands => ?_) (fun hgone => ⟨hdirectory, hgone⟩)
  refine ⟨⟨h.keeps_poolLaw hD hs.pool, hdirectory.1⟩, hdirectory, h.keeps_wholePixels hD hs.directory.1 hs.whole, hstands, ?_⟩
  obtain ⟨y, hy, heq⟩ := hs.record
  have hbytes : SameBytes y.chain s.memory.cells t.memory.cells := h.sameBytes hD hs.pool hs.whole hy (by rw [heq]; simp [hf])
  intro b hb i hi
  rw [hbytes b (by rw [heq]; exact hb) i hi]
  exact hs.bytes b hb i hi

theorem Effects.keeps_holds {s t : State} (hD : D) (h : Effects D ph s t) (hph : ph ≠ .opening) {x : Capture} {cells : List Host.Cell}
    (hl : x.route = .link) (hf : x.fill = .complete) (hs : State.Holds x cells s) : State.Holds x cells t ∨ t.DirectoryLaw ∧ Gone x t.captures :=
  h.keeps (P := fun t => State.Holds x cells t ∨ t.DirectoryLaw ∧ Gone x t.captures)
    (fun h hs => hs.elim (h.keeps_holds hD hl hf) (fun hs => .inr ⟨h.keeps_directoryLaw hD hs.1, h.keeps_gone hph hs.2⟩)) (.inl hs)

theorem Effects.opening_keeps_holds {s t : State} (hD : D) (h : Effects D .opening s t) {x : Capture} {cells : List Host.Cell}
    (hl : x.route = .link) (hf : x.fill = .complete) (hs : State.Holds x cells s ∨ s.DirectoryLaw ∧ Gone x s.captures) :
    State.Holds x cells t ∨ t.Reopened x := by
  refine h.keeps (P := fun t => State.Holds x cells t ∨ t.Reopened x) (fun h hs => ?_) (hs.imp id (fun hs => .of_gone hs.1 hs.2))
  rcases hs with hs | hs
  · exact (h.keeps_holds hD hl hf hs).imp id (fun ht => .of_gone ht.1 ht.2)
  · exact .inr (h.keeps_reopened hD hs)

/-- The bytes of a record that stands with the cells of its chain. -/
theorem State.Holds.captureByte_eq {s t : State} {x y : Capture} (h : State.Holds x s.memory.cells t)
    (hy : y = { x with delivery := y.delivery }) (o : Nat) : t.captureByte y o = s.captureByte x o := by
  have hchain : y.chain = x.chain := by rw [hy]
  have hsent : y.bytesSent = x.bytesSent := by rw [hy]
  unfold State.captureByte
  rw [hchain, hsent]
  split
  · rename_i b hb
    exact h.bytes b (List.mem_of_getElem? hb) _ (Nat.mod_lt _ (by decide))
  · rfl

/-- Settles O60: no effect reaches the record or the blocks of a COMPLETE link capture but one that frees it, and its number is then taken
again by an open alone. -/
theorem completeLinkCaptureKeepsBytes : Obligations.CompleteLinkCaptureKeepsBytes := by
  unfold Obligations.CompleteLinkCaptureKeepsBytes
  intro s t x hpool hs hwhole hstep hx hl hf
  have hholds : State.Holds x s.memory.cells s := ⟨⟨hpool, hs.1⟩, hs, hwhole, ⟨x, hx, rfl⟩, fun _ _ _ _ => rfl⟩
  have hend : State.Holds x s.memory.cells t ∨ t.Reopened x := by
    rcases step_effects (D := True) (fun _ => hs.1) hstep with ⟨u, hw, ho⟩ | hending
    · exact ho.opening_keeps_holds trivial hl hf (hw.keeps_holds trivial (by simp) hl hf hholds)
    · exact (hending.keeps_holds trivial (by simp) hl hf hholds).imp id (fun ht => .of_gone ht.1 ht.2)
  rcases hend with ht | ht
  · obtain ⟨y, hy, heq⟩ := ht.record
    exact .inl ⟨y, hy, heq, ht.captureByte_eq heq⟩
  · exact .inr (fun y hy h => ⟨(ht.record y hy h).1, (ht.record y hy h).2.1⟩)

end Sys2Proof.Machine
end

section
/-! SUPPORT. The geometry of the definitions: what DEFINE_REGION accepts is in range, and active definitions lie in the frame. -/

namespace Sys2Proof.Machine

/-! ### What leaves the geometry and the frame number -/

/-- The geometry and the frame number of the Framer are the same. -/
structure Framer.SameFrame (f g : Framer) : Prop where
  width : g.width = f.width
  height : g.height = f.height
  depth : g.depth = f.depth
  frameNumber : g.frameNumber = f.frameNumber

namespace Framer.SameFrame

theorem of_eq {f g : Framer} (h : g = f) : f.SameFrame g := by subst h; exact ⟨rfl, rfl, rfl, rfl⟩

theorem trans {f g k : Framer} (h : f.SameFrame g) (h' : g.SameFrame k) : f.SameFrame k :=
  ⟨h'.width.trans h.width, h'.height.trans h.height, h'.depth.trans h.depth, h'.frameNumber.trans h.frameNumber⟩

theorem countError (s : State) (event : InputEvent) : s.framer.SameFrame (s.countError event).framer := by
  rw [s.countError_frame event]
  exact ⟨rfl, rfl, rfl, rfl⟩

theorem enterSkipping (s : State) (reason : LossReason) (event : InputEvent) :
    s.framer.SameFrame (s.enterSkipping reason event).framer := by
  rw [State.enterSkipping_framer]
  exact ⟨rfl, rfl, rfl, rfl⟩

theorem enterStopped (s : State) : s.framer.SameFrame s.enterStopped.framer := by
  rw [State.enterStopped_framer]
  exact ⟨rfl, rfl, rfl, rfl⟩

theorem takeLineStart (s : State) : s.framer.SameFrame s.takeLineStart.framer := by
  unfold State.takeLineStart
  split
  · split
    · exact ⟨rfl, rfl, rfl, rfl⟩
    · exact (countError s _).trans (enterSkipping _ _ _)
  · split
    · exact countError s .strayLine
    · exact of_eq rfl
  · exact of_eq rfl
  · exact of_eq rfl

theorem takeLineEnd (s : State) : s.framer.SameFrame s.takeLineEnd.framer := by
  have hrow := s.rowEnd_framer s.framer.linesDone
  unfold State.takeLineEnd
  generalize s.rowEnd s.framer.linesDone = u at hrow ⊢
  split
  · split
    · exact (countError s _).trans (enterSkipping _ _ _)
    · dsimp only
      rw [hrow]
      exact ⟨rfl, rfl, rfl, rfl⟩
  · exact of_eq rfl
  · exact of_eq rfl
  · exact of_eq rfl

theorem takePixel (s : State) (pd : PixelLines) : s.framer.SameFrame (s.takePixel pd).framer := by
  unfold State.takePixel
  split
  · dsimp only
    split
    · rw [State.extractPixel_framer]
      exact ⟨rfl, rfl, rfl, rfl⟩
    · have hcounted : s.framer.SameFrame { s.framer with pixelCount := s.framer.pixelCount + 1 } := ⟨rfl, rfl, rfl, rfl⟩
      exact (hcounted.trans (countError { s with framer := { s.framer with pixelCount := s.framer.pixelCount + 1 } } .lineLong)).trans
        (enterSkipping _ _ _)
  · exact of_eq rfl
  · exact of_eq rfl
  · exact of_eq rfl

theorem leaveFrame (s : State) : s.framer.SameFrame s.leaveFrame.framer := by
  unfold State.leaveFrame
  split
  · exact enterStopped s
  · exact ⟨rfl, rfl, rfl, rfl⟩

theorem takeFrameEnd (s : State) : s.framer.SameFrame s.takeFrameEnd.framer := by
  unfold State.takeFrameEnd
  split
  · split
    · refine Framer.SameFrame.trans ?_ (leaveFrame _)
      rw [State.raiseInput_framer, State.abandonAll_framer]
      exact countError s _
    · exact leaveFrame s
  · exact leaveFrame s
  · exact of_eq rfl
  · exact of_eq rfl

theorem setLv (s : State) (v : Level) : s.framer.SameFrame (s.setLv v).framer := ⟨rfl, rfl, rfl, rfl⟩

theorem setFv (s : State) (v : Level) : s.framer.SameFrame (s.setFv v).framer := ⟨rfl, rfl, rfl, rfl⟩

theorem finishPixel (s : State) : s.framer.SameFrame s.finishPixel.framer := of_eq s.finishPixel_framer

theorem stopNow (s : State) : s.framer.SameFrame s.stopNow.framer := by
  unfold State.stopNow
  split
  · exact of_eq rfl
  · exact enterStopped s
  · exact enterStopped s
  · exact (of_eq (s.abandonAll_framer _)).trans (enterStopped _)

theorem stopAtFrameEnd (s : State) : s.framer.SameFrame s.stopAtFrameEnd.framer := by
  unfold State.stopAtFrameEnd
  split
  · exact of_eq rfl
  · exact enterStopped s
  · exact ⟨rfl, rfl, rfl, rfl⟩
  · exact ⟨rfl, rfl, rfl, rfl⟩

theorem serve {s : State} (k : ReqKind) (form : List Byte → Bool) {body : State → List Byte → State × List Byte}
    (hbody : ∀ p, s.framer.SameFrame (body s p).1.framer) : s.framer.SameFrame (s.serve k form body).framer :=
  State.serve_keeps (fun t => s.framer.SameFrame t.framer) s k form body (of_eq rfl) (of_eq (State.KeepsInput.replayHead s).framer)
    (fun _ _ _ h => h) hbody

/-- A frame start, SET_INPUT and a reset apart, no command changes the geometry or the frame number. -/
theorem exec {c : Instr} {s t : State} (h : Machine.exec c s = .next t) (hreset : mayReset c = false) (hset : c ≠ .setInput)
    (hstart : c ≠ .frameStart) : s.framer.SameFrame t.framer := by
  have hfinish := finishPixel s
  cases hc : State.KeepsInput.movesInput c with
  | false => exact of_eq (State.KeepsInput.exec hc h).framer
  | true =>
    cases c <;> simp only [State.KeepsInput.movesInput, Bool.false_eq_true] at hc
    case pinReset | frameSent | linkBreak => cases hreset
    case setInput => exact absurd rfl hset
    case frameStart => exact absurd rfl hstart
    case lineStart =>
      change execLineStart s = .next t at h
      unfold execLineStart at h
      dsimp only at h
      split at h <;> cases h
      · exact hfinish
      · exact (hfinish.trans (setLv _ _)).trans (takeLineStart _)
    case pixel pd =>
      change execPixel pd s = .next t at h
      unfold execPixel at h
      dsimp only at h
      split at h <;> cases h
      · exact hfinish
      · exact (hfinish.trans (setLv _ _)).trans (takePixel _ _)
    case lineEnd =>
      change execLineEnd s = .next t at h
      unfold execLineEnd at h
      dsimp only at h
      split at h <;> cases h
      · exact hfinish
      · exact (hfinish.trans (setLv _ _)).trans (takeLineEnd _)
    case frameEnd =>
      change execFrameEnd s = .next t at h
      unfold execFrameEnd at h
      dsimp only at h
      (repeat' split at h) <;> cases h
      · exact hfinish
      · exact (((hfinish.trans (setLv _ _)).trans (takeLineEnd _)).trans (setFv _ _)).trans (takeFrameEnd _)
      · exact (hfinish.trans (setFv _ _)).trans (takeFrameEnd _)
    case startInput => cases h; refine serve _ _ (fun p => ?_); unfold State.startInput; split <;> exact ⟨rfl, rfl, rfl, rfl⟩
    case stopInputNow =>
      cases h; refine serve _ _ (fun p => ?_); unfold State.stopInputNow; split
      · exact stopNow s
      · exact of_eq rfl
    case stopInputFrameEnd =>
      cases h; refine serve _ _ (fun p => ?_); unfold State.stopInputFrameEnd; split
      · exact stopAtFrameEnd s
      · exact of_eq rfl

end Framer.SameFrame

/-- A frame start takes a number and leaves the geometry. -/
theorem State.takeFrameStart_framer (s : State) : s.takeFrameStart.framer =
    if s.framer.state = .waiting then { s.framer with
      state := .inFrame, frameNumber := s.framer.frameNumber + 1, linesDone := 0, pixelCount := 0 } else s.framer := by
  unfold State.takeFrameStart
  split
  · rename_i h
    rw [if_pos h]
    simp
  all_goals
    rename_i h
    rw [if_neg (by simp [h])]

/-! ### What DEFINE_REGION stages -/

/-- A payload that passes every check carries a definition in range. -/
theorem readDefinition_inRange {p : List Byte} (hpass : ∀ ok ∈ defineChecks p, ok = true) : (readDefinition p).inRange := by
  rw [defineChecks] at hpass
  simp only [List.forall_mem_cons] at hpass
  simp only [stepInRange_eq, Bool.and_eq_true, Bool.or_eq_true, decide_eq_true_eq, List.mem_cons, List.not_mem_nil, or_false] at hpass
  obtain ⟨-, hx0, hy0, ⟨hw1, hw⟩, ⟨hh1, hh⟩, hcol, hrow, ⟨hs1, hs⟩, -, hcount, -, ⟨hd1, hd⟩, hreserve, ⟨⟨hl1, hl⟩, hle⟩, -⟩ := hpass
  refine ⟨hx0, hy0, hw1, hw, hh1, hh, hcol, hrow, hs1, hs, fun n hn => ?_, hd1, hd, hreserve, hl1, hl, hle⟩
  have hlt := nat2_lt p 13
  simp only [readDefinition] at hn
  split at hn
  · rename_i hmode
    cases hn
    intro hzero
    have hval : nat2 p 13 % 65536 = 0 := by simpa using congrArg BitVec.toNat hzero
    rcases hcount with hne | hpos
    · exact hne hmode
    · omega
  · cases hn

theorem firstFailing_none_iff {checks : List Bool} : firstFailing checks = none ↔ ∀ ok ∈ checks, ok = true := by
  simp [firstFailing]

/-- Everything DEFINE_REGION can do to the state. -/
theorem State.defineRegion_cases (s : State) (p : List Byte) :
    (s.defineRegion p).1 = s ∨ s.table.commitPending = false ∧ ∃ r d, d.inRange ∧ (s.defineRegion p).1 = s.setStaged r (some d) := by
  unfold State.defineRegion
  split
  · exact .inl rfl
  · rename_i hclear
    split
    · rename_i hpass _
      exact .inr ⟨by simpa using hclear, _, _, readDefinition_inRange (firstFailing_none_iff.mp hpass), rfl⟩
    · exact .inl rfl
    · exact .inl rfl

theorem State.clearRegion_cases (s : State) (p : List Byte) :
    (s.clearRegion p).1 = s ∨ s.table.commitPending = false ∧ ∃ r, (s.clearRegion p).1 = s.setStaged r none := by
  unfold State.clearRegion
  split
  · exact .inl rfl
  · rename_i hclear
    split
    · exact .inl rfl
    · exact .inr ⟨by simpa using hclear, _, rfl⟩

/-- Everything COMMIT can do: where it is accepted every staged definition lies in the frame. -/
theorem State.commit_cases (s : State) (p : List Byte) :
    (s.commit p).1 = s ∨ (∀ r d, s.table.staged[(r : RegionId)] = some d → d.liesIn s.framer.width s.framer.height) ∧
      (s.framer.state = .stopped ∧ (s.commit p).1 = s.applyCommit ∨
        s.framer.state ≠ .stopped ∧ (s.commit p).1 = s.setCommitPending true) := by
  unfold State.commit
  split
  · exact .inl rfl
  · split
    · exact .inl rfl
    · rename_i hvalid
      rw [s.validateStaged_eq, List.findSome?_eq_none_iff] at hvalid
      refine .inr ⟨fun r d hd => ?_, ?_⟩
      · by_contra hout
        have hr := hvalid r (allRegions_eq_finRange ▸ List.mem_finRange r)
        rw [State.stagedFailure_of_some hd, State.fitCause_outside hout] at hr
        cases hr
      · split
        · rename_i h; exact .inl ⟨h, rfl⟩
        all_goals
          rename_i h
          exact .inr ⟨by simp [h], rfl⟩

theorem State.setStaged_staged (s : State) (r x : RegionId) (d : Option RegionDef) :
    (s.setStaged r d).table.staged[x] = if x = r then d else s.table.staged[x] := by
  by_cases h : x = r
  · subst h; simp [State.setStaged]
  · have h' : r.val ≠ x.val := fun hv => h (Fin.ext hv.symm)
    simp [State.setStaged, h, h']

/-! ### The law of the geometry -/

/-- The table as the law of the geometry reads it, in a `w` × `h` frame. -/
structure State.TableFits (s : State) (w h : Nat) : Prop where
  staged : ∀ r d, s.table.staged[(r : RegionId)] = some d → d.inRange
  active : ∀ r d, (s.entry r).definition = some d → d.inRange ∧ d.liesIn w h
  pending : s.table.commitPending = true → ∀ r d, s.table.staged[(r : RegionId)] = some d → d.liesIn w h

theorem State.geometryLaw_iff {s : State} : s.GeometryLaw ↔ s.TableFits s.framer.width s.framer.height :=
  ⟨fun ⟨h1, h2, h3⟩ => ⟨h1, h2, h3⟩, fun ⟨h1, h2, h3⟩ => ⟨h1, h2, h3⟩⟩

namespace State.TableFits

theorem of_raises {s t : State} {w h : Nat} (hs : s.TableFits w h) (hr : s.Raises t) : t.TableFits w h := by
  obtain ⟨h1, h2, h3⟩ := hs
  refine ⟨?_, fun r d hd => h2 r d (by rwa [← hr.definition r]), ?_⟩
  · rw [hr.staged]; exact h1
  · rw [hr.staged, hr.commitPending]; exact h3

theorem of_table {s t : State} {w h : Nat} (hs : s.TableFits w h) (ht : t.table = s.table) : t.TableFits w h := by
  obtain ⟨h1, h2, h3⟩ := hs
  refine ⟨by rw [ht]; exact h1, fun r d hd => h2 r d ?_, by rw [ht]; exact h3⟩
  rwa [State.entry, ht] at hd

theorem applyCommit {s : State} {w h : Nat} (hstaged : ∀ r d, s.table.staged[(r : RegionId)] = some d → d.inRange ∧ d.liesIn w h) :
    s.applyCommit.TableFits w h := by
  refine ⟨fun r d hd => (hstaged r d (by rwa [s.applyCommit_staged] at hd)).1, fun r d hd => hstaged r d ?_, fun ht => ?_⟩
  · rw [s.applyCommit_entry] at hd
    unfold appliedEntry at hd
    split at hd
    · rename_i h; rw [h, ← Option.some.inj hd]
    · cases hd
  · rw [s.applyCommit_commitPending] at ht; cases ht

theorem follows {s t : State} {w h : Nat} (hs : s.TableFits w h) (hf : s.Follows t) : t.TableFits w h :=
  hf.keeps (P := fun t => t.TableFits w h) (fun hr ht => ht.of_raises hr)
    (fun hp ht => .applyCommit (fun r d hd => ⟨ht.staged r d hd, ht.pending hp r d hd⟩)) hs

theorem partReset (s : State) (cause : ResetCause) (w h : Nat) : (s.partReset cause).TableFits w h := by
  have hstaged : ∀ r : RegionId, (s.partReset cause).table.staged[r] = none := fun r => by
    simp [State.partReset, State.reset, RegionTable.reset]
  have hactive : ∀ r : RegionId, ((s.partReset cause).entry r).definition = none := fun r => by
    simp [State.entry, State.partReset, State.reset, RegionTable.reset, ActiveEntry.reset]
  refine ⟨fun r d hd => ?_, fun r d hd => ?_, fun _ r d hd => ?_⟩
  · rw [hstaged] at hd; cases hd
  · rw [hactive] at hd; cases hd
  · rw [hstaged] at hd; cases hd

theorem setStaged {s : State} {w h : Nat} (hs : s.TableFits w h) (hclear : s.table.commitPending = false) (r : RegionId)
    {o : Option RegionDef} (ho : ∀ d, o = some d → d.inRange) : (s.setStaged r o).TableFits w h := by
  refine ⟨fun x d hd => ?_, hs.active, fun hp => ?_⟩
  · rw [s.setStaged_staged] at hd
    split at hd
    · exact ho d hd
    · exact hs.staged x d hd
  · rw [show (s.setStaged r o).table.commitPending = s.table.commitPending from rfl, hclear] at hp
    cases hp

theorem commit {s : State} (hs : s.TableFits s.framer.width s.framer.height) (p : List Byte) :
    (s.commit p).1.TableFits s.framer.width s.framer.height := by
  rcases s.commit_cases p with heq | ⟨hlies, ⟨-, heq⟩ | ⟨-, heq⟩⟩ <;> rw [heq]
  · exact hs
  · exact .applyCommit (fun r d hd => ⟨hs.staged r d hd, hlies r d hd⟩)
  · exact ⟨hs.staged, hs.active, fun _ => hlies⟩

theorem serve {s : State} {w h : Nat} (hs : s.TableFits w h) (k : ReqKind) (form : List Byte → Bool)
    {body : State → List Byte → State × List Byte} (hbody : ∀ p, (body s p).1.TableFits w h) : (s.serve k form body).TableFits w h :=
  State.serve_keeps (fun t => t.TableFits w h) s k form body hs (hs.of_table (State.OnlyLink.replayHead s).table_eq)
    (fun t q p ht => ht.of_table (t.finish_table q p)) hbody

/-- SET_INPUT and the resets apart, the table fits the frame as before. -/
theorem exec {c : Instr} {s t : State} (hs : s.TableFits s.framer.width s.framer.height) (h : Machine.exec c s = .next t)
    (hreset : mayReset c = false) (hset : c ≠ .setInput) : t.TableFits s.framer.width s.framer.height := by
  have raises : ∀ {body : State → List Byte → State × List Byte} (k form), (∀ p, s.Raises (body s p).1) →
      (s.serve k form body).TableFits s.framer.width s.framer.height := fun k form hbody => hs.serve k form (fun p => hs.of_raises (hbody p))
  cases c with
  | pinReset | frameSent | linkBreak => cases hreset
  | setInput => exact absurd rfl hset
  | frameStart | lineStart | pixel | lineEnd | frameEnd => exact hs.follows (.exec h (.inl rfl))
  | take d => exact hs.follows (.exec h (.inr (.inl ⟨d, rfl⟩)))
  | stallTimerExpiry d => exact hs.follows (.exec h (.inr (.inr ⟨d, rfl⟩)))
  | identify | status | poolStatus | getRegion | regionStatus | read | drainStatus | setNotices =>
    exact hs.of_table (State.OnlyLink.exec rfl h).table_eq
  | reset | unknownRequest | replay => exact hs.of_table (State.OnlyLink.exec rfl h).table_eq
  | requestFrame | framingError | lenRefused | gapTimerExpiry | rxdReturnsHigh | frameByteTaken | partReady =>
    exact hs.of_table (State.OnlyLink.exec rfl h).table_eq
  | startInput => cases h; refine hs.serve _ _ (fun p => ?_); unfold State.startInput; split <;> exact hs.of_table rfl
  | stopInputNow => cases h; exact hs.serve _ _ (fun p => hs.follows (.stopInputNow s p))
  | stopInputFrameEnd => cases h; exact hs.serve _ _ (fun p => hs.follows (.stopInputFrameEnd s p))
  | defineRegion =>
    cases h
    refine hs.serve _ _ (fun p => ?_)
    rcases s.defineRegion_cases p with heq | ⟨hclear, r, d, hd, heq⟩ <;> rw [heq]
    · exact hs
    · exact hs.setStaged hclear r (fun d' h => by cases h; exact hd)
  | clearRegion =>
    cases h
    refine hs.serve _ _ (fun p => ?_)
    rcases s.clearRegion_cases p with heq | ⟨hclear, r, heq⟩ <;> rw [heq]
    · exact hs
    · exact hs.setStaged hclear r (fun d' h => by cases h)
  | cancelCommit =>
    cases h
    refine hs.serve _ _ (fun p => ?_)
    unfold State.cancelCommit
    split
    · exact ⟨hs.staged, hs.active, fun h => by cases h⟩
    · exact hs
  | commit => cases h; exact hs.serve _ _ hs.commit
  | haltRegion => cases h; exact raises _ _ (.haltRegion s)
  | fetch => cases h; exact raises _ _ (.fetch s)
  | release => cases h; exact raises _ _ (.release s)
  | flush => cases h; exact raises _ _ (.flush s)
  | setDrainEnable => cases h; exact raises _ _ (.setDrainWith .enableDrain s)
  | setDrainDisable => cases h; exact raises _ _ (.setDrainWith .disableDrain s)
  | setDrainAbort => cases h; exact raises _ _ (.setDrainWith .abortDrain s)

end State.TableFits

/-- SET_INPUT accepts a geometry in which every active definition lies; no commit is pending in STOPPED. -/
theorem State.GeometryLaw.setInput {s : State} (hs : s.GeometryLaw) (hentries : s.EntriesDefined) (hframer : s.FramerLaw)
    (p : List Byte) : (s.setInput p).1.GeometryLaw := by
  rcases s.setInput_cases p with heq | ⟨hstate, w, h, depth, -, -, -, -, hfit, heq⟩ <;> rw [heq]
  · exact hs
  · obtain ⟨hstaged, hactive, -⟩ := hs
    refine ⟨hstaged, fun r d hd => ⟨(hactive r d hd).1, ?_⟩, fun hp => absurd hstate (hframer.2.1 hp)⟩
    by_contra hout
    rw [State.activeMisfit_eq, List.findSome?_eq_none_iff] at hfit
    have hr := hfit r (allRegions_eq_finRange ▸ List.mem_finRange r)
    have hd' : (s.entry r).definition = some d := hd
    have huses : s.Uses r d := ⟨hd', fun h => by rw [(hentries r).mpr h] at hd'; cases hd'⟩
    rw [State.activeFailure_of_uses huses, RegionDef.misfit_outside hout] at hr
    cases hr

theorem State.GeometryLaw.exec {c : Instr} {s t : State} (hs : s.GeometryLaw) (hentries : s.EntriesDefined) (hframer : s.FramerLaw)
    (h : Machine.exec c s = .next t) : t.GeometryLaw := by
  by_cases hset : c = .setInput
  · subst hset
    cases h
    exact State.serve_keeps (fun t => t.GeometryLaw) s _ _ _ hs (by rw [State.replayHead_frame]; exact hs) (fun _ _ _ ht => ht)
      (State.GeometryLaw.setInput hs hentries hframer)
  · cases hreset : mayReset c with
    | true =>
      rcases exec_mayReset hreset h with ⟨cause, rfl⟩ | heq
      · exact State.geometryLaw_iff.mpr (.partReset s cause _ _)
      · rw [heq]; exact hs
    | false =>
      have ht := State.TableFits.exec (State.geometryLaw_iff.mp hs) h hreset hset
      rw [State.geometryLaw_iff]
      by_cases hstart : c = .frameStart
      · subst hstart
        have hframe : t.framer.width = s.framer.width ∧ t.framer.height = s.framer.height := by
          change execFrameStart s = .next t at h
          unfold execFrameStart at h
          dsimp only at h
          have htaken : (s.finishPixel.setFv .high).takeFrameStart.framer.width = s.framer.width ∧
              (s.finishPixel.setFv .high).takeFrameStart.framer.height = s.framer.height := by
            rw [State.takeFrameStart_framer]
            split <;> simp
          split at h
          · cases h; simp
          · split at h <;> cases h
            · have hline := Framer.SameFrame.takeLineStart (s.finishPixel.setFv .high).takeFrameStart
              exact ⟨hline.width.trans htaken.1, hline.height.trans htaken.2⟩
            · exact htaken
        rwa [hframe.1, hframe.2]
      · have hframe := Framer.SameFrame.exec h hreset hset hstart
        rwa [hframe.width, hframe.height]

theorem State.GeometryLaw.servePixel {s : State} (hs : s.GeometryLaw) : s.servePixel.GeometryLaw := by
  rw [State.geometryLaw_iff, s.servePixel_framer]
  exact (State.geometryLaw_iff.mp hs).of_raises (.servePixel s)

end Sys2Proof.Machine
end

section
/-! SUPPORT. The FILLING captures, as far as the raster law reads them, under each operation. -/

namespace Sys2Proof.Machine

variable {D : Prop} {ph : Phase}

/-! ### The FILLING captures -/

/-- A capture without what the drains, the blocks and the readers change while it fills. -/
def Capture.progress (c : Capture) : Capture := { c with delivery := .waiting, chain := [], bytesSent := 0 }

/-- The FILLING captures, in opening order. -/
def State.filling (s : State) : List Capture := (s.captures.filter (fun c => c.fill = .filling)).map Capture.progress

theorem State.mem_filling {s : State} {c : Capture} : c ∈ s.filling ↔ ∃ x ∈ s.captures, x.fill = .filling ∧ x.progress = c := by
  simp [State.filling, and_assoc]

theorem State.filling_of_captures {s t : State} (h : t.captures = s.captures) : t.filling = s.filling := by
  rw [State.filling, State.filling, h]

/-- Records that change in what the raster law does not read. -/
theorem State.filling_of_map {s t : State} {f : Capture → Capture} (hc : t.captures = s.captures.map f)
    (hf : ∀ x ∈ s.captures, (f x).fill = x.fill ∧ (f x).progress = x.progress) : t.filling = s.filling := by
  rw [State.filling, State.filling, hc, List.filter_map, List.map_map]
  have hfilter : s.captures.filter ((fun c => decide (c.fill = .filling)) ∘ f) = s.captures.filter (fun c => decide (c.fill = .filling)) :=
    List.filter_congr fun x hx => by rw [Function.comp_apply, (hf x hx).1]
  rw [hfilter]
  exact List.map_congr_left fun x hx => (hf x (List.mem_filter.mp hx).1).2

theorem State.filling_of_update {s t : State} {n : Nat} {f : Capture → Capture}
    (hc : t.captures = s.captures.map (fun x => if x.slot = n then f x else x))
    (hf : ∀ x, (f x).fill = x.fill ∧ (f x).progress = x.progress) : t.filling = s.filling :=
  State.filling_of_map hc fun x _ => by split; exacts [hf x, ⟨rfl, rfl⟩]

/-- The record of a number is gone. -/
theorem State.filling_of_drop {s t : State} {n : Nat} (hc : t.captures = s.captures.filter (fun x => x.slot ≠ n)) :
    t.filling = s.filling.filter (fun x => x.slot ≠ n) := by
  rw [State.filling, State.filling, hc, List.filter_map, List.filter_filter, List.filter_filter]
  congr 1
  exact List.filter_congr fun x _ => by rw [Bool.and_comm]; rfl

/-- The record of a number fills no more. -/
theorem State.filling_of_end {s t : State} {n : Nat} {f : Capture → Capture}
    (hc : t.captures = s.captures.map (fun x => if x.slot = n then f x else x)) (hf : ∀ x, (f x).fill ≠ .filling) :
    t.filling = s.filling.filter (fun x => x.slot ≠ n) := by
  rw [State.filling, State.filling, hc, List.filter_map, List.filter_map, List.filter_filter, List.map_map]
  have hfilter : s.captures.filter ((fun c => decide (c.fill = .filling)) ∘ fun x => if x.slot = n then f x else x) =
      s.captures.filter (fun x => ((fun c : Capture => decide (c.slot ≠ n)) ∘ Capture.progress) x && decide (x.fill = .filling)) := by
    refine List.filter_congr fun x _ => ?_
    by_cases hx : x.slot = n <;> simp [Capture.progress, hx, hf]
  rw [hfilter]
  refine List.map_congr_left fun x hx => ?_
  have hslot : x.slot ≠ n := of_decide_eq_true (Bool.and_eq_true_iff.mp (List.mem_filter.mp hx).2).1
  rw [Function.comp_apply, if_neg hslot]

/-- A pixel counted in a FILLING capture. -/
def Capture.counted (c : Capture) : Capture := { c with bytesWritten := c.bytesWritten + c.bpp }

theorem State.filling_of_write {s t : State} {n : Nat} {f : Capture → Capture}
    (hc : t.captures = s.captures.map (fun x => if x.slot = n then f x else x))
    (hf : ∀ x, (f x).fill = x.fill ∧ (f x).progress = x.progress.counted) :
    t.filling = s.filling.map (fun x => if x.slot = n then x.counted else x) := by
  rw [State.filling, State.filling, hc, List.filter_map, List.map_map, List.map_map]
  have hfilter : s.captures.filter ((fun c => decide (c.fill = .filling)) ∘ fun x => if x.slot = n then f x else x) =
      s.captures.filter (fun c => decide (c.fill = .filling)) :=
    List.filter_congr fun x _ => by by_cases hx : x.slot = n <;> simp [hx, hf]
  rw [hfilter]
  refine List.map_congr_left fun x _ => ?_
  have hslot : x.progress.slot = x.slot := rfl
  by_cases hx : x.slot = n
  · rw [Function.comp_apply, Function.comp_apply, if_pos hx, hslot, if_pos hx, (hf x).2]
  · rw [Function.comp_apply, Function.comp_apply, if_neg hx, hslot, if_neg hx]

theorem State.Promotes.filling_eq {s t : State} (h : s.Promotes t) : t.filling = s.filling := by
  obtain ⟨-, f, hf, hcases⟩ := h
  exact State.filling_of_map hf fun x _ => by rcases hcases x with h | ⟨h, -⟩ <;> rw [h] <;> exact ⟨rfl, rfl⟩

/-- What writes no pixel and opens no record only ends FILLING captures. -/
theorem Effect.filling_sublist {s t : State} (hD : D) (h : Effect D .ending s t) : t.filling.Sublist s.filling := by
  have same : ∀ {l : List Capture}, l = s.filling → l.Sublist s.filling := fun h => h ▸ .refl _
  have less : ∀ {l : List Capture} {n : Nat}, l = s.filling.filter (fun x => x.slot ≠ n) → l.Sublist s.filling :=
    fun h => h ▸ List.filter_sublist
  cases h with
  | quiet h => exact same (State.filling_of_captures h.captures)
  | astray hD' => exact absurd hD hD'
  | adjust d y h => exact same (State.filling_of_captures (s.setDrain_captures d y))
  | free c hw hc => exact less (State.filling_of_drop rfl)
  | mark c reason ha hc => exact less (State.filling_of_end rfl fun _ => by simp)
  | fetch c hc hl hw => exact same (State.filling_of_update rfl fun _ => ⟨rfl, rfl⟩)
  | promote d h => exact same (s.promote_promotes d).filling_eq
  | endHead d reason st h hst =>
    cases hc : s.head d with
    | none => exact same (State.filling_of_captures (by rw [State.endHead_captures, hc]))
    | some c => exact less (State.filling_of_drop (by rw [State.endHead_captures, hc]))
  | send d c k hc =>
    rw [State.sendDataWord_eq]
    split
    · exact same (State.filling_of_update rfl fun _ => ⟨rfl, rfl⟩)
    · exact same (State.filling_of_update rfl fun _ => ⟨rfl, rfl⟩)
  | lastTake d c hc hq => exact less ((State.moveOn_promotes (s.freeCapture c) d).filling_eq.trans (State.filling_of_drop rfl))
  | release c hc hl ha => exact less (State.filling_of_drop rfl)
  | returned hm hc hA hB =>
    exact same (State.filling_of_map hc fun x _ => by unfold Capture.returned; split <;> exact ⟨rfl, rfl⟩)
  | reset cause => exact List.nil_sublist _

theorem Effects.filling_sublist {s t : State} (hD : D) (h : Effects D .ending s t) : t.filling.Sublist s.filling :=
  h.keeps (P := fun t => t.filling.Sublist s.filling) (fun h hs => (h.filling_sublist hD).trans hs) (.refl _)

/-! ### Ends of FILLING captures -/

theorem State.abandon_captures (s : State) (c : Capture) (reason : LossReason) :
    (s.abandon c reason).captures =
      if c.delivery = .waiting then s.captures.filter (fun x => x.slot ≠ c.slot)
      else s.captures.map (fun x => if x.slot = c.slot
        then { x with fill := .abandoned, chain := [], abandonReason := some reason } else x) := by
  cases hw : c.delivery with
  | waiting => rw [(s.abandon_waiting reason hw).captures]; rfl
  | active =>
    have hmarked : ∀ l : List Capture, (l.map (fun x => if x.slot = c.slot then { x with chain := [] } else x)).map
        (fun x => if x.slot = c.slot then { x with fill := .abandoned, abandonReason := some reason } else x) =
        l.map (fun x => if x.slot = c.slot then { x with fill := .abandoned, chain := [], abandonReason := some reason } else x) := by
      intro l
      rw [List.map_map]
      exact List.map_congr_left fun x _ => by by_cases hx : x.slot = c.slot <;> simp [hx]
    unfold State.abandon
    simp only [hw]
    split
    · rw [State.cutToTrailer_captures]
      exact hmarked _
    · exact hmarked _

theorem State.filling_abandon (s : State) (c : Capture) (reason : LossReason) :
    (s.abandon c reason).filling = s.filling.filter (fun x => x.slot ≠ c.slot) := by
  have h := s.abandon_captures c reason
  split at h
  · exact State.filling_of_drop h
  · exact State.filling_of_end h fun _ => by simp

theorem State.complete_captures (s : State) (c : Capture) :
    (s.complete c).captures = s.captures.map (fun x => if x.slot = c.slot then { x with fill := .complete } else x) := by
  have hcount : ∀ (t : State) (r : RegionId), (t.finishCount r).captures = t.captures := fun t r => by
    unfold State.finishCount; split <;> simp
  have hannounce : ∀ t : State, (t.announceCompletion c).captures = t.captures := fun t => by
    unfold State.announceCompletion; (repeat' split) <;> simp
  unfold State.complete
  rw [hcount, hannounce]
  rfl

theorem State.filling_complete (s : State) (c : Capture) :
    (s.complete c).filling = s.filling.filter (fun x => x.slot ≠ c.slot) :=
  State.filling_of_end (s.complete_captures c) fun _ => by simp

/-! ### A pixel of a FILLING capture -/

theorem State.filling_discardAll {cs : List Capture} {s : State} (h : ∀ c ∈ cs, ∀ x ∈ s.captures, x.fill = .filling → x.slot ≠ c.slot) :
    (cs.foldl State.discard s).filling = s.filling := by
  induction cs generalizing s with
  | nil => rfl
  | cons c cs ih =>
    have hdrop : (s.discard c).filling = s.filling := by
      rw [State.filling_of_drop (s := s) (t := s.discard c) (n := c.slot) rfl, List.filter_eq_self]
      intro x hx
      obtain ⟨y, hy, hf, rfl⟩ := State.mem_filling.mp hx
      exact decide_eq_true (h c List.mem_cons_self y hy hf)
    rw [List.foldl_cons, ih (fun c' hc' x hx => ?_), hdrop]
    exact h c' (List.mem_cons_of_mem _ hc') x (List.mem_filter.mp hx).1

theorem State.RecordsDistinct.filling_ne_candidate {s : State} (hs : s.RecordsDistinct) {r : RegionId} {c x : Capture}
    (hc : c ∈ s.candidates r) (hx : x ∈ s.captures) (hf : x.fill = .filling) : x.slot ≠ c.slot := by
  intro h
  obtain ⟨hmem, -, hcomplete, -⟩ := State.mem_candidates.mp hc
  rw [hs.eq_of_slot hmem hx h, hcomplete] at hf
  cases hf

/-- What a write of a pixel does: the discards of its block request, then the write into the capture, with a block granted for it at a block
boundary; or, where the request ends in refusal, the abandonment. -/
theorem State.RecordsDistinct.writePixel_cases {s : State} (hs : s.RecordsDistinct) {r : RegionId} {c : Capture}
    (hc : s.openCapture r = some c) (v : Half) :
    ∃ cs : List Capture, cs.Sublist (s.candidates r) ∧ (cs.foldl State.discard s).openCapture r = some c ∧
      ((∃ w c', (c.bytesWritten % Config.blockSize ≠ 0 ∧ w = cs.foldl State.discard s ∨
            c.bytesWritten % Config.blockSize = 0 ∧ (cs.foldl State.discard s).memory.freePool ≠ [] ∧
              w = (cs.foldl State.discard s).grantBlock c.slot) ∧
          w.capture c.slot = some c' ∧ s.writePixel r v = (w.storePixel c' v).tellDrainOfWrite c') ∨
        s.writePixel r v = (cs.foldl State.discard s).abandon c .noBlocks) := by
  obtain ⟨hmem, -, -⟩ := State.openCapture_eq_some hc
  by_cases hboundary : c.bytesWritten % Config.blockSize = 0
  · obtain ⟨k, -, -, hend⟩ := s.requestBlock_spec r c.slot (s.discardable r)
    have hsub : ((s.discardable r).take k).Sublist (s.candidates r) := (List.take_sublist _ _).trans (s.discardable_sublist _)
    have hrun : Effects True .writing s (((s.discardable r).take k).foldl State.discard s) := .discardCandidates (fun _ => hs) hsub
    have hopen := State.openCapture_discardAll hc fun x hx => hs.openCapture_ne_candidate hc (hsub.subset hx)
    refine ⟨(s.discardable r).take k, hsub, hopen, ?_⟩
    unfold State.writePixel
    rw [hc]
    simp only [hboundary, if_true]
    rcases hend with ⟨hgrant, heq⟩ | ⟨-, -, heq⟩
    · have hpool := State.freePool_ne_nil_of_grantable hgrant
      obtain ⟨b, rest, -, hsome⟩ := State.grantBlock_capture (hrun.keeps_recordsDistinct hs) hpool hopen
      refine .inl ⟨_, _, .inr ⟨trivial, hpool, rfl⟩, hsome, ?_⟩
      simp only [heq, if_true, hsome]
    · refine .inr ?_
      simp only [heq]
      rfl
  · refine ⟨[], List.nil_sublist _, hc, .inl ⟨s, c, .inl ⟨hboundary, rfl⟩, hs.capture_eq hmem, ?_⟩⟩
    unfold State.writePixel
    rw [hc]
    simp only [hboundary, if_false]

theorem State.RecordsDistinct.filling_writePixel {s : State} (hs : s.RecordsDistinct) {r : RegionId} {c : Capture}
    (hc : s.openCapture r = some c) (v : Half) :
    (s.writePixel r v).filling = s.filling.map (fun x => if x.slot = c.slot then x.counted else x) ∨
    (s.writePixel r v).filling = s.filling.filter (fun x => x.slot ≠ c.slot) := by
  obtain ⟨cs, hsub, hopen, hcases⟩ := hs.writePixel_cases hc v
  have hdiscards : (cs.foldl State.discard s).filling = s.filling :=
    State.filling_discardAll fun x hx y hy hf => hs.filling_ne_candidate (hsub.subset hx) hy hf
  rcases hcases with ⟨w, c', hw, hc', heq⟩ | heq
  · have hwfilling : w.filling = s.filling := by
      rw [← hdiscards]
      rcases hw with ⟨-, rfl⟩ | ⟨-, hpool, rfl⟩
      · rfl
      · obtain ⟨b, rest, hfree⟩ := List.exists_cons_of_ne_nil hpool
        rw [State.grantBlock_of_free _ c.slot b rest hfree]
        exact State.filling_of_update rfl fun _ => ⟨rfl, rfl⟩
    refine .inl ?_
    rw [heq, (State.tellDrainOfWrite_promotes _ _).filling_eq, ← hwfilling, ← (State.capture_eq_some hc').2]
    exact State.filling_of_write rfl fun _ => ⟨rfl, rfl⟩
  · exact .inr (by rw [heq, State.filling_abandon, hdiscards])

end Sys2Proof.Machine
end

section
/-! SUPPORT. The raster law: the pixels that a region has sampled before a pixel of the raster, and the bytes of its FILLING capture (O58). -/

namespace Sys2Proof.Machine

/-! ### Pixels sampled before a pixel of the raster -/

theorem RegionDef.inRange.steps {d : RegionDef} (h : d.inRange) :
    (d.colStep = 1 ∨ d.colStep = 2 ∨ d.colStep = 4 ∨ d.colStep = 8) ∧ (d.rowStep = 1 ∨ d.rowStep = 2 ∨ d.rowStep = 4 ∨ d.rowStep = 8) := by
  obtain ⟨-, -, -, -, -, -, hcol, hrow, -⟩ := h
  exact ⟨hcol, hrow⟩

theorem RegionDef.inRange.sizes {d : RegionDef} (h : d.inRange) : 1 ≤ d.width ∧ 1 ≤ d.height := by
  obtain ⟨-, -, hw, -, hh, -⟩ := h
  exact ⟨hw, hh⟩

theorem sampledBelow_zero {o n k : Nat} (hk : k = 1 ∨ k = 2 ∨ k = 4 ∨ k = 8) : sampledBelow o n k 0 = 0 := by
  rcases hk with rfl | rfl | rfl | rfl <;> simp [sampledBelow, ceilDiv]

/-- Column `x` is counted when it is one of those sampled. -/
theorem sampledBelow_succ {o n k : Nat} (hk : k = 1 ∨ k = 2 ∨ k = 4 ∨ k = 8) (x : Nat) :
    sampledBelow o n k (x + 1) = sampledBelow o n k x + if o ≤ x ∧ x < o + n ∧ (x - o) % k = 0 then 1 else 0 := by
  unfold sampledBelow ceilDiv
  rcases hk with rfl | rfl | rfl | rfl <;> split <;> omega

theorem sampledBelow_past {o n k x : Nat} (hk : k = 1 ∨ k = 2 ∨ k = 4 ∨ k = 8) (h : o + n ≤ x) : sampledBelow o n k x = ceilDiv n k := by
  unfold sampledBelow ceilDiv
  rcases hk with rfl | rfl | rfl | rfl <;> omega

/-- Just past the last sampled row every row has been counted. -/
theorem sampledBelow_lastRow {o n k : Nat} (hk : k = 1 ∨ k = 2 ∨ k = 4 ∨ k = 8) (hn : 1 ≤ n) :
    sampledBelow o n k (o + (ceilDiv n k - 1) * k + 1) = ceilDiv n k := by
  unfold sampledBelow ceilDiv
  rcases hk with rfl | rfl | rfl | rfl <;> omega

theorem RegionDef.lastRow_lt {d : RegionDef} (h : d.inRange) : d.lastRow d.outH < d.y0 + d.height := by
  obtain ⟨-, hrow⟩ := h.steps
  obtain ⟨-, hheight⟩ := h.sizes
  unfold RegionDef.lastRow RegionDef.outH ceilDiv
  rcases hrow with h | h | h | h <;> rw [h] <;> omega

theorem RegionDef.sampledBefore_start {d : RegionDef} (h : d.inRange) : d.sampledBefore 0 0 = 0 := by
  obtain ⟨hcol, hrow⟩ := h.steps
  unfold RegionDef.sampledBefore
  rw [sampledBelow_zero hcol, sampledBelow_zero hrow]
  simp

theorem RegionDef.sampledBefore_succ {d : RegionDef} (h : d.inRange) (x y : Nat) :
    d.sampledBefore (x + 1) y = d.sampledBefore x y + if d.samples x y then 1 else 0 := by
  obtain ⟨hcol, -⟩ := h.steps
  unfold RegionDef.sampledBefore RegionDef.samples
  rw [sampledBelow_succ hcol]
  by_cases hy : d.y0 ≤ y ∧ y < d.y0 + d.height ∧ (y - d.y0) % d.rowStep = 0
  · obtain ⟨h1, h2, h3⟩ := hy
    simp [h1, h2, h3, and_assoc, Nat.add_assoc]
  · have hno : (decide (d.y0 ≤ y) && decide (y < d.y0 + d.height) && decide ((y - d.y0) % d.rowStep = 0)) = false := by
      simpa [and_assoc] using hy
    simp only [hno, Bool.and_assoc] at hno ⊢
    simp

/-- The end of a line, past the columns of the region. -/
theorem RegionDef.sampledBefore_line {d : RegionDef} (h : d.inRange) {x y : Nat} (hx : d.x0 + d.width ≤ x) :
    d.sampledBefore 0 (y + 1) = d.sampledBefore x y := by
  obtain ⟨hcol, hrow⟩ := h.steps
  unfold RegionDef.sampledBefore
  rw [sampledBelow_zero hcol, sampledBelow_past hcol hx, sampledBelow_succ hrow]
  by_cases hy : d.y0 ≤ y ∧ y < d.y0 + d.height ∧ (y - d.y0) % d.rowStep = 0
  · obtain ⟨h1, h2, h3⟩ := hy
    simp [h1, h2, h3, Nat.add_mul, RegionDef.outW]
  · have hno : (decide (d.y0 ≤ y) && decide (y < d.y0 + d.height) && decide ((y - d.y0) % d.rowStep = 0)) = false := by
      simpa [and_assoc] using hy
    simp [hno, hy]

theorem RegionDef.sampledBefore_last {d : RegionDef} (h : d.inRange) : d.sampledBefore 0 (d.lastRow d.outH + 1) = d.outW * d.outH := by
  obtain ⟨hcol, hrow⟩ := h.steps
  obtain ⟨-, hheight⟩ := h.sizes
  unfold RegionDef.sampledBefore RegionDef.lastRow RegionDef.outH
  rw [sampledBelow_zero hcol, sampledBelow_lastRow hrow hheight, Nat.mul_comm]
  simp

/-! ### The raster law, with a column for each region -/

/-- The capture holds what its region samples before column `x` of the present line. -/
structure Capture.Sampled (c : Capture) (f : Framer) (o : Option RegionDef) (x : Nat) : Prop where
  inFrame : f.state = .inFrame
  bytes : ∃ d, o = some d ∧ c.outW = d.outW ∧ c.outH = d.outH ∧ c.bpp = f.depth.bpp ∧ c.bytesExpected = d.outW * d.outH * c.bpp ∧
    f.linesDone ≤ d.lastRow c.outH ∧ c.bytesWritten = d.sampledBefore x f.linesDone * c.bpp

/-- The raster law with the column of the next pixel that reaches each region. -/
structure State.RasterAt (s : State) (col : RegionId → Nat) : Prop where
  single : (s.filling.map Capture.region).Nodup
  each : ∀ c ∈ s.filling, c.Sampled s.framer (s.entry c.region).definition (col c.region)

theorem State.length_filling_region (s : State) (r : RegionId) :
    ((s.captureList r).filter (fun c => c.fill = .filling)).length = (s.filling.map Capture.region).count r := by
  rw [State.filling, List.map_map, State.captureList, List.filter_filter, List.count_eq_countP, List.countP_map, List.countP_filter,
    List.countP_eq_length_filter]
  congr 1
  refine List.filter_congr fun c _ => ?_
  rw [Bool.and_comm]
  rfl

theorem State.rasterLaw_iff {s : State} : s.RasterLaw ↔ s.RasterAt s.columnFor := by
  constructor
  · rintro ⟨hsingle, heach⟩
    refine ⟨List.nodup_iff_count_le_one.mpr fun r => s.length_filling_region r ▸ hsingle r, fun c hc => ?_⟩
    obtain ⟨x, hx, hf, rfl⟩ := State.mem_filling.mp hc
    obtain ⟨hstate, hbytes⟩ := heach x hx hf
    exact ⟨hstate, hbytes⟩
  · rintro ⟨hsingle, heach⟩
    refine ⟨fun r => s.length_filling_region r ▸ List.nodup_iff_count_le_one.mp hsingle r, fun x hx hf => ?_⟩
    obtain ⟨hstate, hbytes⟩ := heach x.progress (State.mem_filling.mpr ⟨x, hx, hf, rfl⟩)
    exact ⟨hstate, hbytes⟩

theorem State.RasterAt.congr {s : State} {col col' : RegionId → Nat} (h : s.RasterAt col) (hcol : ∀ r, col' r = col r) :
    s.RasterAt col' := funext hcol ▸ h

theorem State.RasterAt.of_empty {s : State} (h : s.filling = []) (col : RegionId → Nat) : s.RasterAt col :=
  ⟨by rw [h]; exact List.nodup_nil, fun c hc => by rw [h] at hc; cases hc⟩

/-- FILLING captures exist in IN_FRAME alone. -/
theorem State.RasterAt.empty {s : State} {col : RegionId → Nat} (h : s.RasterAt col) (hstate : s.framer.state ≠ .inFrame) :
    s.filling = [] :=
  List.eq_nil_iff_forall_not_mem.mpr fun c hc => hstate (h.each c hc).inFrame

/-- What the raster law reads of the Framer and of the table. -/
structure State.SameRaster (s t : State) : Prop where
  state : t.framer.state = s.framer.state
  depth : t.framer.depth = s.framer.depth
  linesDone : t.framer.linesDone = s.framer.linesDone
  definition : ∀ r, (t.entry r).definition = (s.entry r).definition

theorem State.SameRaster.of_raises {s t : State} (h : s.Raises t) (hf : t.framer = s.framer) : s.SameRaster t :=
  ⟨by rw [hf], by rw [hf], by rw [hf], h.definition⟩

theorem State.SameRaster.trans {s t u : State} (h : s.SameRaster t) (h' : t.SameRaster u) : s.SameRaster u :=
  ⟨h'.state.trans h.state, h'.depth.trans h.depth, h'.linesDone.trans h.linesDone, fun r => (h'.definition r).trans (h.definition r)⟩

theorem Capture.Sampled.of_same {s t : State} {c : Capture} {r : RegionId} {x : Nat}
    (h : c.Sampled s.framer (s.entry r).definition x) (hst : s.SameRaster t) : c.Sampled t.framer (t.entry r).definition x := by
  obtain ⟨hstate, hbytes⟩ := h
  refine ⟨hst.state.trans hstate, ?_⟩
  rw [hst.depth, hst.linesDone, hst.definition r]
  exact hbytes

/-- Some FILLING captures end, and nothing else of the raster moves. -/
theorem State.RasterAt.shrink {s t : State} {col : RegionId → Nat} (h : s.RasterAt col) (hsub : t.filling.Sublist s.filling)
    (hst : s.SameRaster t) : t.RasterAt col :=
  ⟨h.single.sublist (hsub.map _), fun c hc => (h.each c (hsub.subset hc)).of_same hst⟩

/-! ### A pixel reaches a region -/

theorem State.openCapture_eq_none {s : State} {r : RegionId} (h : s.openCapture r = none) : ∀ c ∈ s.filling, c.region ≠ r := by
  intro c hc
  obtain ⟨x, hx, hf, rfl⟩ := State.mem_filling.mp hc
  rw [State.openCapture_eq, List.find?_eq_none] at h
  intro hr
  have hr' : x.region = r := hr
  have hno := h x hx
  simp [hr', hf] at hno

/-- The FILLING capture of a region is the one with the number of its open capture. -/
theorem State.RasterAt.slot_iff {s : State} {col : RegionId → Nat} (h : s.RasterAt col) (hs : s.RecordsDistinct) {r : RegionId}
    {c x : Capture} (hc : s.openCapture r = some c) (hx : x ∈ s.filling) : x.slot = c.slot ↔ x.region = r := by
  obtain ⟨hmem, hregion, hf⟩ := State.openCapture_eq_some hc
  constructor
  · intro hslot
    obtain ⟨y, hy, -, rfl⟩ := State.mem_filling.mp hx
    have hyc : y = c := hs.eq_of_slot hmem hy hslot
    rw [hyc]
    exact hregion
  · intro hr
    have hc' : c.progress ∈ s.filling := State.mem_filling.mpr ⟨c, hmem, hf, rfl⟩
    rw [List.inj_on_of_nodup_map h.single hx hc' (hr.trans hregion.symm)]
    rfl

/-- The region's capture has taken the pixel at column `x`, or has ended. -/
theorem State.RasterAt.serveRegion {s : State} {col : RegionId → Nat} (h : s.RasterAt col) (hs : s.RecordsDistinct)
    (hrange : ∀ r d, (s.entry r).definition = some d → d.inRange) {r : RegionId} (v : Half) :
    (State.serveRegion (col r) s.framer.linesDone v s r).RasterAt (Function.update col r (col r + 1)) := by
  have hsame : s.SameRaster (State.serveRegion (col r) s.framer.linesDone v s r) :=
    .of_raises (.serveRegion _ _ _ _ _) (State.serveRegion_framer _ _ _ _ _)
  have hother : ∀ c : Capture, c.region ≠ r → Function.update col r (col r + 1) c.region = col c.region :=
    fun c hc => Function.update_of_ne hc _ _
  unfold State.serveRegion at hsame ⊢
  cases hc : s.openCapture r with
  | none =>
    have hwrite : s.writePixel r v = s := by unfold State.writePixel; rw [hc]
    rw [hwrite, ite_self]
    refine ⟨h.single, fun c hmem => ?_⟩
    rw [hother c (State.openCapture_eq_none hc c hmem)]
    exact h.each c hmem
  | some c =>
    split
    · rename_i hsamples
      rw [if_pos hsamples] at hsame
      unfold State.regionSamples at hsamples
      rcases hs.filling_writePixel hc v with heq | heq
      · refine ⟨?_, fun x hx => ?_⟩
        · have hregions : (s.filling.map (fun x => if x.slot = c.slot then x.counted else x)).map Capture.region =
              s.filling.map Capture.region := by
            rw [List.map_map]
            exact List.map_congr_left fun x _ => by rw [Function.comp_apply]; split <;> rfl
          rw [heq, hregions]
          exact h.single
        · rw [heq] at hx
          obtain ⟨y, hy, rfl⟩ := List.mem_map.mp hx
          have hold := h.each y hy
          by_cases hslot : y.slot = c.slot
          · have hregion := (h.slot_iff hs hc hy).mp hslot
            rw [if_pos hslot]
            obtain ⟨hstate, d, hd, hw, hh, hbpp, hexpected, hlines, hbytes⟩ := hold
            have hregion' : y.counted.region = r := hregion
            rw [hregion] at hd hbytes
            refine Capture.Sampled.of_same (s := s) ⟨hstate, d, by rwa [hregion'], hw, hh, hbpp, hexpected, hlines, ?_⟩ hsame
            rw [hd] at hsamples
            rw [hregion', Function.update_self, RegionDef.sampledBefore_succ (hrange r d hd), if_pos hsamples, Nat.add_mul, Nat.one_mul]
            change y.bytesWritten + y.bpp = _
            rw [hbytes]
            rfl
          · rw [if_neg hslot, hother y fun hr => hslot ((h.slot_iff hs hc hy).mpr hr)]
            exact hold.of_same hsame
      · refine ⟨h.single.sublist (by rw [heq]; exact List.filter_sublist.map _), fun x hx => ?_⟩
        rw [heq] at hx
        obtain ⟨hx, hslot⟩ := List.mem_filter.mp hx
        rw [hother x fun hr => absurd ((h.slot_iff hs hc hx).mpr hr) (of_decide_eq_true hslot)]
        exact (h.each x hx).of_same hsame
    · rename_i hsamples
      refine ⟨h.single, fun x hx => ?_⟩
      have hold := h.each x hx
      by_cases hr : x.region = r
      · obtain ⟨hstate, d, hd, hw, hh, hbpp, hexpected, hlines, hbytes⟩ := hold
        refine ⟨hstate, d, hd, hw, hh, hbpp, hexpected, hlines, ?_⟩
        rw [hr] at hd hbytes
        unfold State.regionSamples at hsamples
        rw [hd] at hsamples
        rw [hr, Function.update_self, RegionDef.sampledBefore_succ (hrange r d hd), if_neg hsamples, Nat.add_zero]
        exact hbytes
      · rw [hother x hr]
        exact hold

/-- The pixel at column `x` reaches the regions of a list. -/
theorem State.RasterAt.serveAll {l : List RegionId} (hl : l.Nodup) {s : State} {col : RegionId → Nat} (h : s.RasterAt col)
    (hs : s.RecordsDistinct) (hrange : ∀ r d, (s.entry r).definition = some d → d.inRange) {x y : Nat} (hcol : ∀ r ∈ l, col r = x)
    (hy : y = s.framer.linesDone) (v : Half) :
    (l.foldl (State.serveRegion x y v) s).RasterAt (fun r => if r ∈ l then x + 1 else col r) := by
  induction l generalizing s col with
  | nil => exact h.congr fun r => by simp
  | cons r l ih =>
    obtain ⟨hr, hl⟩ := List.nodup_cons.mp hl
    have hfirst := h.serveRegion hs hrange (r := r) v
    rw [hcol r List.mem_cons_self, ← hy] at hfirst
    have hraises := State.Raises.serveRegion x y v s r
    have hdistinct : (State.serveRegion x y v s r).RecordsDistinct :=
      (Effects.serveRegion (D := True) (fun _ => hs) x y v r).keeps_recordsDistinct hs
    rw [List.foldl_cons]
    refine (ih hl hfirst hdistinct (fun q d hd => hrange q d (by rwa [← hraises.definition q])) (fun q hq => ?_) ?_).congr fun q => ?_
    · have hne : q ≠ r := fun h => hr (h ▸ hq)
      rw [Function.update_of_ne hne]
      exact hcol q (List.mem_cons_of_mem _ hq)
    · rw [State.serveRegion_framer]; exact hy
    · by_cases hq : q = r
      · subst hq; simp [hr]
      · simp [hq]

end Sys2Proof.Machine
end

section
/-! SUPPORT. The raster law under each command (O58). -/

namespace Sys2Proof.Machine

/-! ### What the raster law is kept with -/

/-- The raster law at given columns, with the laws that its proof uses. -/
structure State.RasterKept (s : State) (col : RegionId → Nat) : Prop where
  distinct : s.RecordsDistinct
  fits : ∀ r d, (s.entry r).definition = some d → d.inRange ∧ d.liesIn s.framer.width s.framer.height
  raster : s.RasterAt col

namespace State.RasterKept

variable {s t : State} {col : RegionId → Nat}

theorem inRange (h : s.RasterKept col) : ∀ r d, (s.entry r).definition = some d → d.inRange := fun r d hd => (h.fits r d hd).1

theorem congr {col' : RegionId → Nat} (h : s.RasterKept col) (hcol : ∀ r, col' r = col r) : s.RasterKept col' := funext hcol ▸ h

/-- With no FILLING capture the columns do not matter. -/
theorem of_empty (h : s.RasterKept col) (hempty : s.filling = []) (col' : RegionId → Nat) : s.RasterKept col' :=
  ⟨h.distinct, h.fits, .of_empty hempty col'⟩

/-- Some FILLING captures end, and the Framer moves in what the law does not read. -/
theorem shrink (h : s.RasterKept col) (he : Effects True .ending s t) (hst : s.SameRaster t)
    (hf : s.framer.SameFrame t.framer) : t.RasterKept col :=
  ⟨he.keeps_recordsDistinct h.distinct,
    fun r d hd => by rw [hf.width, hf.height]; exact h.fits r d (by rwa [← hst.definition r]), h.raster.shrink (he.filling_sublist trivial) hst⟩

end State.RasterKept

theorem State.filling_eq_nil_of_effects {s t : State} (h : s.filling = []) (he : Effects True .ending s t) : t.filling = [] :=
  List.sublist_nil.mp (h ▸ he.filling_sublist trivial)

/-! ### Ends of every FILLING capture -/

/-- Region `r` has no FILLING capture once its open capture is abandoned. -/
theorem State.RasterAt.abandonOpen {s : State} {col : RegionId → Nat} (h : s.RasterAt col) (hs : s.RecordsDistinct) (reason : LossReason)
    (r : RegionId) : ∀ c ∈ (s.abandonOpen reason r).filling, c.region ≠ r := by
  unfold State.abandonOpen
  cases hc : s.openCapture r with
  | none => exact State.openCapture_eq_none hc
  | some c =>
    intro x hx hr
    rw [State.filling_abandon] at hx
    obtain ⟨hx, hslot⟩ := List.mem_filter.mp hx
    exact of_decide_eq_true hslot ((h.slot_iff hs hc hx).mpr hr)

theorem State.SameRaster.abandonOpen (s : State) (reason : LossReason) (r : RegionId) : s.SameRaster (s.abandonOpen reason r) :=
  .of_raises (.abandonOpen s reason r) (s.abandonOpen_framer reason r)

theorem State.RasterAt.abandonRegions (l : List RegionId) {s : State} {col : RegionId → Nat} (h : s.RasterAt col) (hs : s.RecordsDistinct)
    (reason : LossReason) : ∀ c ∈ (l.foldl (fun t r => t.abandonOpen reason r) s).filling, c ∈ s.filling ∧ c.region ∉ l := by
  induction l generalizing s with
  | nil => exact fun c hc => ⟨hc, List.not_mem_nil⟩
  | cons r l ih =>
    intro c hc
    have hrun := Effects.abandonOpen (D := True) (ph := .ending) s reason r
    have hsub := hrun.filling_sublist trivial
    obtain ⟨hmem, hl⟩ := ih (h.shrink hsub (.abandonOpen s reason r)) (hrun.keeps_recordsDistinct hs) c hc
    refine ⟨hsub.subset hmem, fun hin => ?_⟩
    rcases List.mem_cons.mp hin with hr | hin
    · exact h.abandonOpen hs reason r c hmem hr
    · exact hl hin

theorem State.RasterAt.abandonAll {s : State} {col : RegionId → Nat} (h : s.RasterAt col) (hs : s.RecordsDistinct) (reason : LossReason) :
    (s.abandonAll reason).filling = [] :=
  List.eq_nil_iff_forall_not_mem.mpr fun c hc =>
    (h.abandonRegions allRegions hs reason c hc).2 (allRegions_eq_finRange ▸ List.mem_finRange c.region)

theorem State.RasterAt.enterSkipping {s : State} {col : RegionId → Nat} (h : s.RasterAt col) (hs : s.RecordsDistinct) (reason : LossReason)
    (event : InputEvent) : (s.enterSkipping reason event).filling = [] := by
  have hempty := h.abandonAll hs reason
  have hcaptures : (s.enterSkipping reason event).captures = (s.abandonAll reason).captures := by
    unfold State.enterSkipping
    generalize s.abandonAll reason = u
    rfl
  rw [State.filling_of_captures hcaptures, hempty]

/-- The Framer's state apart, an entry into SKIPPING leaves the law with no FILLING capture. -/
theorem State.RasterKept.skip {s : State} {col : RegionId → Nat} (h : s.RasterKept col) (reason : LossReason) (event : InputEvent)
    (col' : RegionId → Nat) : (s.enterSkipping reason event).RasterKept col' := by
  have hraises := State.Raises.enterSkipping s reason event
  have hframe := Framer.SameFrame.enterSkipping s reason event
  refine ⟨(Effects.enterSkipping (D := True) (ph := .ending) s reason event).keeps_recordsDistinct h.distinct, fun r d hd => ?_,
    .of_empty (h.raster.enterSkipping h.distinct reason event) col'⟩
  rw [hframe.width, hframe.height]
  exact h.fits r d (by rwa [← hraises.definition r])

/-- A change of the Framer that keeps its geometry and leaves the frame where it stands. -/
theorem State.RasterKept.setFramer {s : State} {col : RegionId → Nat} (h : s.RasterKept col) {f : Framer} (hf : s.framer.SameFrame f)
    (hstate : f.state = s.framer.state) (hlines : f.linesDone = s.framer.linesDone) : State.RasterKept { s with framer := f } col :=
  h.shrink (.setFramer s f) ⟨hstate, hf.depth, hlines, fun _ => rfl⟩ hf

theorem State.RasterKept.countError {s : State} {col : RegionId → Nat} (h : s.RasterKept col) (event : InputEvent) :
    (s.countError event).RasterKept col := by
  rw [s.countError_frame event]
  have hcount := Framer.SameFrame.countError s event
  exact h.setFramer ⟨rfl, rfl, rfl, rfl⟩ rfl rfl

/-! ### The end of a line -/

/-- The row end sees every byte of its last row: the captures that complete fill no more. -/
theorem State.RasterAt.rowEndOf {s : State} {col : RegionId → Nat} (h : s.RasterAt col) (hs : s.RecordsDistinct) (row : Nat) (r : RegionId) :
    ∀ c ∈ (State.rowEndOf row s r).filling, c.region = r → s.rowCompletes c row = false := by
  unfold State.rowEndOf
  cases hc : s.openCapture r with
  | none => exact fun c hmem hr => absurd hr (State.openCapture_eq_none hc c hmem)
  | some c =>
    intro x hx hr
    dsimp only at hx
    split at hx
    · rw [State.filling_complete] at hx
      obtain ⟨hx, hslot⟩ := List.mem_filter.mp hx
      exact absurd ((h.slot_iff hs hc hx).mpr hr) (of_decide_eq_true hslot)
    · rename_i hno
      have hslot := (h.slot_iff hs hc hx).mpr hr
      obtain ⟨hmem, hregion, hf⟩ := State.openCapture_eq_some hc
      obtain ⟨y, hy, -, rfl⟩ := State.mem_filling.mp hx
      have hyc : y = c := hs.eq_of_slot hmem hy hslot
      rw [hyc]
      exact eq_false_of_ne_true hno

theorem Effects.filling_rowEndOf (s : State) (row : Nat) (r : RegionId) : (State.rowEndOf row s r).filling.Sublist s.filling := by
  unfold State.rowEndOf
  split
  · exact .refl _
  · split
    · rw [State.filling_complete]; exact List.filter_sublist
    · exact .refl _

theorem State.Raises.rowEndOf (s : State) (row : Nat) (r : RegionId) : s.Raises (State.rowEndOf row s r) := by
  unfold State.rowEndOf
  split
  · exact .refl s
  · split
    · exact .complete _ _
    · exact .refl s

theorem State.rowEndOf_framer (s : State) (row : Nat) (r : RegionId) : (State.rowEndOf row s r).framer = s.framer := by
  unfold State.rowEndOf
  (repeat' split) <;> simp

theorem State.rowCompletes_congr {s t : State} (h : ∀ r, (t.entry r).definition = (s.entry r).definition) (c : Capture) (row : Nat) :
    t.rowCompletes c row = s.rowCompletes c row := by
  unfold State.rowCompletes
  rw [h]

theorem State.RasterAt.rowEndRegions (l : List RegionId) {s : State} {col : RegionId → Nat} (h : s.RasterAt col) (hs : s.RecordsDistinct)
    (row : Nat) : (l.foldl (State.rowEndOf row) s).filling.Sublist s.filling ∧
      ∀ c ∈ (l.foldl (State.rowEndOf row) s).filling, c.region ∈ l → s.rowCompletes c row = false := by
  induction l generalizing s with
  | nil => exact ⟨.refl _, fun c _ hin => absurd hin List.not_mem_nil⟩
  | cons r l ih =>
    have hraises := State.Raises.rowEndOf s row r
    have hsub := Effects.filling_rowEndOf s row r
    have hdistinct := (Effects.rowEndOf (D := True) s row r).keeps_recordsDistinct hs
    obtain ⟨hsub', hrest⟩ := ih (h.shrink hsub (.of_raises hraises (State.rowEndOf_framer s row r))) hdistinct
    refine ⟨hsub'.trans hsub, fun c hc hin => ?_⟩
    rcases List.mem_cons.mp hin with hr | hin
    · exact h.rowEndOf hs row r c (hsub'.subset hc) hr
    · rw [← State.rowCompletes_congr hraises.definition c row]
      exact hrest c hc hin

/-- After the end of a full line the FILLING captures have a sampled row to come. -/
theorem State.RasterKept.lineEnd {s : State} {x : Nat} (h : s.RasterKept (fun _ => x)) (hx : s.framer.width ≤ x) :
    State.RasterKept { s.rowEnd s.framer.linesDone with
      framer := { s.framer with linesDone := s.framer.linesDone + 1 } } (fun _ => 0) := by
  obtain ⟨hsub, hcompletes⟩ := h.raster.rowEndRegions allRegions h.distinct s.framer.linesDone
  have hraises := State.Raises.rowEnd s s.framer.linesDone
  have hdistinct := (Effects.rowEnd (D := True) s s.framer.linesDone).keeps_recordsDistinct h.distinct
  change (s.rowEnd s.framer.linesDone).filling.Sublist s.filling at hsub
  change ∀ c ∈ (s.rowEnd s.framer.linesDone).filling, c.region ∈ allRegions → _ at hcompletes
  generalize s.rowEnd s.framer.linesDone = u at hsub hcompletes hraises hdistinct
  refine ⟨hdistinct, fun r d hd => h.fits r d (by rw [← hraises.definition r]; exact hd), h.raster.single.sublist (hsub.map _), fun c hc => ?_⟩
  obtain ⟨hstate, d, hd, hw, hh, hbpp, hexpected, hlines, hbytes⟩ := h.raster.each c (hsub.subset hc)
  obtain ⟨hrange, hlies, -⟩ := h.fits c.region d hd
  have hline : d.sampledBefore 0 (s.framer.linesDone + 1) = d.sampledBefore x s.framer.linesDone :=
    RegionDef.sampledBefore_line hrange (hlies.trans hx)
  have hmore : s.framer.linesDone ≠ d.lastRow c.outH := by
    intro hlast
    have hno := hcompletes c hc (allRegions_eq_finRange ▸ List.mem_finRange c.region)
    unfold State.rowCompletes at hno
    rw [hd] at hno
    have hall : c.bytesWritten = c.bytesExpected := by
      rw [hbytes, hexpected, ← hline, hlast, hh, RegionDef.sampledBefore_last hrange]
    simp [hlast, hall] at hno
  refine ⟨hstate, d, (hraises.definition c.region).trans hd, hw, hh, hbpp, hexpected, ?_, ?_⟩
  · exact Nat.lt_of_le_of_ne hlines hmore
  · rw [hbytes]
    exact congrArg (· * c.bpp) hline.symm

/-! ### The start of a frame -/

/-- A record opened for a region adds its capture, whose bytes are none yet. -/
theorem State.filling_openRecord (s : State) (r : RegionId) (d : RegionDef) (seq : Half) :
    (s.openRecord r d seq).filling = s.filling ∨ ∃ slot,
      (s.openRecord r d seq).filling = s.filling ++ [openedCapture slot r seq s.framer.frameNumber d s.framer.depth.bpp] := by
  unfold State.openRecord
  split
  · exact .inl rfl
  · rename_i slot _ _
    refine .inr ⟨slot, ?_⟩
    simp [State.filling, openedCapture, Capture.progress]

/-- Discarding to make room touches no FILLING capture. -/
theorem State.RecordsDistinct.filling_makeRoom {s : State} (hs : s.RecordsDistinct) (r : RegionId) (n : Nat) :
    (State.makeRoom r n (s.candidates r) s).filling = s.filling := by
  obtain ⟨k, -, -, -, heq⟩ := s.makeRoom_spec r n (s.candidates r)
  rw [heq, State.filling_discardAll fun x hx y hy hf => hs.filling_ne_candidate (List.mem_of_mem_take hx) hy hf]

theorem State.RecordsDistinct.filling_openDue {s : State} (hs : s.RecordsDistinct) (r : RegionId) (d : RegionDef) :
    (s.openDue r d).filling = s.filling ∨ ∃ slot seq,
      (s.openDue r d).filling = s.filling ++ [openedCapture slot r seq s.framer.frameNumber d s.framer.depth.bpp] := by
  have hroom : ∀ n : State, n.framer = s.framer → n.captures = s.captures → ∀ w : State,
      w = (if d.policy = .keepNew then State.makeRoom r d.depth (n.candidates r) n else n) →
        w.framer = s.framer ∧ w.filling = s.filling := by
    rintro n hf hc w rfl
    have hn : n.RecordsDistinct := by rw [State.RecordsDistinct, hc]; exact hs
    split
    · exact ⟨(State.makeRoom_framer _ _ _ _).trans hf, (hn.filling_makeRoom r d.depth).trans (State.filling_of_captures hc)⟩
    · exact ⟨hf, State.filling_of_captures hc⟩
  have hw := hroom (s.setEntry r { s.entry r with nextSeq := (s.entry r).nextSeq + 1 }) rfl rfl _ rfl
  unfold State.openDue
  dsimp only at hw ⊢
  generalize (if d.policy = .keepNew then _ else _ : State) = w at hw ⊢
  obtain ⟨hf, hfill⟩ := hw
  split
  · rcases w.filling_openRecord r d (s.entry r).nextSeq with heq | ⟨slot, heq⟩
    · exact .inl (heq.trans hfill)
    · exact .inr ⟨slot, _, by rw [heq, hfill, hf]⟩
  · exact .inl hfill

/-- Due evaluation leaves the FILLING captures, or opens one for its region. -/
theorem State.filling_evaluateRegion {s : State} (hs : s.RecordsDistinct) (r : RegionId) :
    (s.evaluateRegion r).filling = s.filling ∨
    ∃ d slot seq, (s.entry r).definition = some d ∧
      (s.evaluateRegion r).filling = s.filling ++ [openedCapture slot r seq s.framer.frameNumber d s.framer.depth.bpp] := by
  unfold State.evaluateRegion
  dsimp only
  split
  · exact .inl rfl
  · rename_i d hd
    split
    · split
      · split
        · have hreloaded : (s.setEntry r { s.entry r with phase := d.stride - 1 }).RecordsDistinct := hs
          rcases hreloaded.filling_openDue r d with heq | ⟨slot, seq, heq⟩
          · exact .inl heq
          · exact .inr ⟨d, slot, seq, hd, heq⟩
        · exact .inl rfl
      · exact .inl rfl
    · exact .inl rfl

theorem State.SameRaster.evaluateRegion (s : State) (r : RegionId) : s.SameRaster (s.evaluateRegion r) :=
  .of_raises (.evaluateRegion s r) (s.evaluateRegion_framer r)

/-- A region without a FILLING capture may open one at the start of the raster. -/
theorem State.RasterKept.evaluateRegion {s : State} (h : s.RasterKept (fun _ => 0)) (hstate : s.framer.state = .inFrame)
    (hlines : s.framer.linesDone = 0) (r : RegionId) (hr : ∀ c ∈ s.filling, c.region ≠ r) : (s.evaluateRegion r).RasterKept (fun _ => 0) := by
  have hsame := State.SameRaster.evaluateRegion s r
  refine ⟨(Effects.evaluateRegion (D := True) (fun _ => h.distinct) r).keeps_recordsDistinct h.distinct, fun q d hd => ?_, ?_⟩
  · rw [s.evaluateRegion_framer]
    exact h.fits q d (by rwa [← hsame.definition q])
  · rcases State.filling_evaluateRegion h.distinct r with heq | ⟨d, slot, seq, hd, heq⟩
    · exact h.raster.shrink (by rw [heq]) hsame
    · refine ⟨?_, fun c hc => ?_⟩
      · rw [heq, List.map_append, List.nodup_append']
        refine ⟨h.raster.single, List.nodup_singleton _, List.disjoint_singleton.mpr fun hin => ?_⟩
        obtain ⟨c, hc, hregion⟩ := List.mem_map.mp hin
        exact hr c hc hregion
      · rw [heq] at hc
        rcases List.mem_append.mp hc with hc | hc
        · exact (h.raster.each c hc).of_same hsame
        · rw [List.mem_singleton.mp hc]
          refine Capture.Sampled.of_same (s := s) ⟨hstate, d, hd, rfl, rfl, rfl, rfl, by rw [hlines]; exact Nat.zero_le _, ?_⟩ hsame
          rw [hlines, RegionDef.sampledBefore_start (h.inRange r d hd), Nat.zero_mul]
          rfl

theorem State.filling_evaluateRegion_regions {s : State} (hs : s.RecordsDistinct) (r : RegionId) {q : RegionId} (hq : q ≠ r)
    (h : ∀ c ∈ s.filling, c.region ≠ q) : ∀ c ∈ (s.evaluateRegion r).filling, c.region ≠ q := by
  rcases State.filling_evaluateRegion hs r with heq | ⟨d, slot, seq, -, heq⟩ <;> rw [heq]
  · exact h
  · intro c hc
    rcases List.mem_append.mp hc with hc | hc
    · exact h c hc
    · rw [List.mem_singleton.mp hc]; exact hq.symm

theorem State.RasterKept.evaluateRegions {l : List RegionId} (hl : l.Nodup) {s : State} (h : s.RasterKept (fun _ => 0))
    (hstate : s.framer.state = .inFrame) (hlines : s.framer.linesDone = 0) (hfree : ∀ r ∈ l, ∀ c ∈ s.filling, c.region ≠ r) :
    (l.foldl State.evaluateRegion s).RasterKept (fun _ => 0) := by
  induction l generalizing s with
  | nil => exact h
  | cons r l ih =>
    obtain ⟨hr, hl⟩ := List.nodup_cons.mp hl
    refine ih hl (h.evaluateRegion hstate hlines r (hfree r List.mem_cons_self)) ?_ ?_ fun q hq => ?_
    · rw [s.evaluateRegion_framer]; exact hstate
    · rw [s.evaluateRegion_framer]; exact hlines
    · exact State.filling_evaluateRegion_regions h.distinct r (fun h => hr (h ▸ hq)) (hfree q (List.mem_cons_of_mem _ hq))

end Sys2Proof.Machine
end

section
/-! SUPPORT. The raster law along a step (O58). -/

namespace Sys2Proof.Machine

/-! ### The pixel in hand -/

/-- Where the next pixel of each region of `l` is at column `x`, and that of every other at the column after. -/
def columnBefore (l : List RegionId) (x : Nat) (r : RegionId) : Nat := if r ∈ l then x else x + 1

/-- With the pixel `x` in hand for the regions `l`, the columns are those before it. -/
theorem State.columnFor_of_inHand {s : State} (h : s.InHandLaw) {p : PixelInHand} (hp : s.inHand = some p) (r : RegionId) :
    s.columnFor r = columnBefore p.rest p.x r := by
  obtain ⟨-, hlv, hx, -⟩ := h p hp
  unfold State.columnFor columnBefore
  rw [hp]
  dsimp only
  rw [Framer.column, hlv, ← hx]

theorem State.columnFor_of_none {s : State} (h : s.inHand = none) (r : RegionId) : s.columnFor r = s.framer.column := by
  rw [State.columnFor, h]

theorem allRegions_nodup : allRegions.Nodup := by decide

theorem State.RasterKept.toInHand {s : State} (h : s.RasterKept s.columnFor) (hs : s.InHandLaw) {p : PixelInHand} (hp : s.inHand = some p) :
    s.RasterKept (columnBefore p.rest p.x) := h.congr fun r => (State.columnFor_of_inHand hs hp r).symm

/-- The pixel at column `x` reaches the first `k` of the regions `l` that it had to reach. -/
theorem State.RasterKept.serveTake {s : State} {l : List RegionId} {x : Nat} (h : s.RasterKept (columnBefore l x)) (hl : l.Nodup) (k : Nat)
    (v : Half) : ((l.take k).foldl (State.serveRegion x s.framer.linesDone v) s).RasterAt (columnBefore (l.drop k) x) := by
  have hcol : ∀ r ∈ l.take k, columnBefore l x r = x := fun r hr => if_pos (List.mem_of_mem_take hr)
  refine (h.raster.serveAll (hl.sublist (List.take_sublist k l)) h.distinct h.inRange hcol rfl v).congr fun r => ?_
  have hdisjoint := List.disjoint_take_drop hl (Nat.le_refl k)
  have hsplit : r ∈ l ↔ r ∈ l.take k ∨ r ∈ l.drop k := by rw [← List.mem_append, List.take_append_drop]
  unfold columnBefore
  by_cases htake : r ∈ l.take k
  · rw [if_pos htake, if_neg (hdisjoint htake)]
  · simp [htake, hsplit]

theorem State.RasterAt.setInHand {s : State} {col : RegionId → Nat} (h : s.RasterAt col) (o : Option PixelInHand) :
    State.RasterAt { s with inHand := o } col := ⟨h.single, h.each⟩

theorem State.RasterKept.raiseInput {s : State} {col : RegionId → Nat} (h : s.RasterKept col) (event : InputEvent) :
    (s.raiseInput event).RasterKept col :=
  h.shrink (.raiseInput s event) (.of_raises (.raise _ _) rfl) (.of_eq rfl)

/-- The pixel goes on to its next block request: its column is the one before the pixel count. -/
theorem State.RasterKept.serveRegions {s : State} {l : List RegionId} {x : Nat} (h : s.RasterKept (columnBefore l x)) (hl : l.Nodup)
    (hlv : s.framer.lv = .high) (hx : x + 1 = s.framer.pixelCount) (v : Half) (asked : Bool) :
    (State.serveRegions x s.framer.linesDone v asked l s).RasterAt
      (State.serveRegions x s.framer.linesDone v asked l s).columnFor := by
  have hframer := State.serveRegions_framer x s.framer.linesDone v asked l s
  obtain ⟨k, hk, heq⟩ := State.serveRegions_split x s.framer.linesDone v asked l s
  have hserved := h.serveTake hl k v
  rw [heq] at hframer ⊢
  generalize (l.take k).foldl (State.serveRegion x s.framer.linesDone v) s = u at hframer hserved ⊢
  change u.framer = s.framer at hframer
  refine (hserved.setInHand _).congr fun r => ?_
  have hcolumn : u.framer.column = x + 1 := by rw [hframer, Framer.column, hlv, hx]
  unfold State.columnFor columnBefore
  by_cases hlast : k = l.length
  · simp [hlast, hcolumn]
  · simp [hlast, hcolumn]

theorem State.RasterKept.servePixel {s : State} (h : s.RasterKept s.columnFor) (hs : s.InHandLaw) :
    s.servePixel.RasterAt s.servePixel.columnFor := by
  unfold State.servePixel
  split
  · exact h.raster
  · rename_i p hp
    obtain ⟨-, hlv, hx, -, hy, hrest⟩ := hs p hp
    rw [hy]
    exact (h.toInHand hs hp).serveRegions (allRegions_nodup.sublist hrest.sublist) hlv hx p.value false

/-- The pixel in hand has reached its last region: every region expects the column of the Framer. -/
theorem State.RasterKept.finishPixel {s : State} (h : s.RasterKept s.columnFor) (hs : s.InHandLaw) :
    s.finishPixel.RasterKept (fun _ => s.framer.column) := by
  have hraises := State.Raises.finishPixel s
  refine ⟨(Effects.finishPixel (D := True) (fun _ => h.distinct)).keeps_recordsDistinct h.distinct, fun r d hd => ?_, ?_⟩
  · rw [s.finishPixel_framer]
    exact h.fits r d (by rwa [← hraises.definition r])
  · unfold State.finishPixel
    split
    · rename_i hnone
      exact h.raster.congr fun r => (State.columnFor_of_none hnone r).symm
    · rename_i p hp
      obtain ⟨-, hlv, hx, -, hy, hrest⟩ := hs p hp
      have hserved := (h.toInHand hs hp).serveTake (allRegions_nodup.sublist hrest.sublist) p.rest.length p.value
      rw [List.take_length, List.drop_length, ← hy] at hserved
      refine (hserved.setInHand none).congr fun r => ?_
      rw [Framer.column, hlv, ← hx]
      exact (if_neg List.not_mem_nil).symm

/-! ### The events of the pixel port -/

/-- The raster law with no pixel in hand. -/
theorem State.RasterKept.atColumn {s : State} (h : s.RasterKept (fun _ => s.framer.column)) (hnone : s.inHand = none) :
    s.RasterAt s.columnFor := h.raster.congr (State.columnFor_of_none hnone)

theorem State.RasterKept.takeLineStart {s : State} (h : s.RasterKept (fun _ => 0)) :
    s.takeLineStart.RasterKept (fun _ => s.takeLineStart.framer.column) := by
  unfold State.takeLineStart
  split
  · split
    · refine (State.RasterKept.setFramer (f := { s.framer with pixelCount := 0 }) h ⟨rfl, rfl, rfl, rfl⟩ rfl rfl).congr fun _ => ?_
      unfold Framer.column
      dsimp only
      split <;> rfl
    · exact (h.countError _).skip _ _ _
  · rename_i hstate
    split
    · exact ((h.countError .strayLine).of_empty (h.raster.empty (by simp [hstate])) _).raiseInput .strayLine
    · exact h.of_empty (h.raster.empty (by simp [hstate])) _
  · rename_i hstate
    exact h.of_empty (h.raster.empty (by simp [hstate])) _
  · rename_i hstate
    exact h.of_empty (h.raster.empty (by simp [hstate])) _

theorem State.RasterKept.takeLineEnd {s : State} (h : s.RasterKept (fun _ => s.framer.pixelCount)) (hlv : s.framer.lv = .low) :
    s.takeLineEnd.RasterKept (fun _ => s.takeLineEnd.framer.column) := by
  have hframer := s.rowEnd_framer s.framer.linesDone
  unfold State.takeLineEnd
  split
  · split
    · exact (h.countError _).skip _ _ _
    · rename_i hfull
      have hended := h.lineEnd (Nat.not_lt.mp hfull)
      dsimp only
      rw [hframer]
      refine hended.congr fun _ => ?_
      rw [Framer.column, hlv]
  · rename_i hstate
    exact h.of_empty (h.raster.empty (by simp [hstate])) _
  · rename_i hstate
    exact h.of_empty (h.raster.empty (by simp [hstate])) _
  · rename_i hstate
    exact h.of_empty (h.raster.empty (by simp [hstate])) _

theorem State.RasterKept.takePixel {s : State} (h : s.RasterKept (fun _ => s.framer.pixelCount)) (hlv : s.framer.lv = .high)
    (pd : PixelLines) : (s.takePixel pd).RasterAt (s.takePixel pd).columnFor := by
  unfold State.takePixel
  split
  · rename_i hstate
    have hcounted : State.RasterKept { s with framer := { s.framer with pixelCount := s.framer.pixelCount + 1 } }
        (fun _ => s.framer.pixelCount) := h.setFramer ⟨rfl, rfl, rfl, rfl⟩ rfl rfl
    dsimp only
    split
    · refine State.RasterKept.serveRegions (s := { s with framer := { s.framer with pixelCount := s.framer.pixelCount + 1 } }) ?_
        allRegions_nodup hlv rfl _ false
      exact hcounted.congr fun r => if_pos (allRegions_eq_finRange ▸ List.mem_finRange r)
    · have hskip := (hcounted.countError .lineLong).skip .lineError .lineLong
      exact (hskip _).raster
  · rename_i hstate
    exact .of_empty (h.raster.empty (by simp [hstate])) _
  · rename_i hstate
    exact .of_empty (h.raster.empty (by simp [hstate])) _
  · rename_i hstate
    exact .of_empty (h.raster.empty (by simp [hstate])) _

/-- A frame end leaves no FILLING capture: in a frame whose lines are all done none has a sampled row to come. -/
theorem State.RasterKept.takeFrameEnd_filling {s : State} {col : RegionId → Nat} (h : s.RasterKept col) : s.takeFrameEnd.filling = [] := by
  have leave : ∀ u : State, u.filling = [] → u.leaveFrame.filling = [] := fun u hu =>
    State.filling_eq_nil_of_effects hu (.leaveFrame u)
  unfold State.takeFrameEnd
  split
  · split
    · have hcut := (h.countError .frameShort).raster.abandonAll (h.countError .frameShort).distinct .shortFrame
      exact leave _ (State.filling_eq_nil_of_effects hcut (.raiseInput _ _))
    · rename_i hdone
      refine leave s (List.eq_nil_iff_forall_not_mem.mpr fun c hc => hdone ?_)
      obtain ⟨-, d, hd, -, hh, -, -, hlines, -⟩ := h.raster.each c hc
      obtain ⟨hrange, -, hlies⟩ := h.fits c.region d hd
      rw [hh] at hlines
      exact Nat.lt_of_lt_of_le (Nat.lt_of_le_of_lt hlines (RegionDef.lastRow_lt hrange)) hlies
  · rename_i hstate
    exact leave s (h.raster.empty (by simp [hstate]))
  · rename_i hstate
    exact h.raster.empty (by simp [hstate])
  · rename_i hstate
    exact h.raster.empty (by simp [hstate])

/-- Outside a frame nothing is FILLING; a frame start opens captures that hold nothing. -/
theorem State.RasterKept.takeFrameStart {s : State} {col : RegionId → Nat} (h : s.RasterKept col) (hempty : s.filling = [])
    (hfits : s.TableFits s.framer.width s.framer.height) : s.takeFrameStart.RasterKept (fun _ => 0) := by
  unfold State.takeFrameStart
  split
  · have hpending : ∀ u : State, u.RecordsDistinct → u.filling = [] → u.TableFits u.framer.width u.framer.height →
        u.applyPending.RasterKept (fun _ => 0) := by
      intro u hdistinct hfilling htable
      refine ⟨(Effects.applyPending (D := True) (ph := .ending) u).keeps_recordsDistinct hdistinct, ?_, .of_empty ?_ _⟩
      · rw [u.applyPending_framer]
        exact (htable.follows (.applyPending u)).active
      · rw [State.filling_of_captures u.applyPending_captures, hfilling]
    have hnumbered := hpending { s with framer := { s.framer with
      state := .inFrame, frameNumber := s.framer.frameNumber + 1, linesDone := 0, pixelCount := 0 } } h.distinct hempty (hfits.of_table rfl)
    refine hnumbered.evaluateRegions allRegions_nodup ?_ ?_ fun r _ c hc => ?_
    · rw [State.applyPending_framer]
    · rw [State.applyPending_framer]
    · rw [State.filling_of_captures (State.applyPending_captures _)] at hc
      change c ∈ s.filling at hc
      rw [hempty] at hc
      cases hc
  all_goals exact h.of_empty hempty _

end Sys2Proof.Machine
end

section
/-! SUPPORT. The raster law under each command, and O58. -/

namespace Sys2Proof.Machine

theorem State.RasterKept.of_laws {s : State} (hdistinct : s.RecordsDistinct) (hgeometry : s.GeometryLaw) (hraster : s.RasterLaw) :
    s.RasterKept s.columnFor := ⟨hdistinct, (State.geometryLaw_iff.mp hgeometry).active, State.rasterLaw_iff.mp hraster⟩

/-! ### The pixel port -/

/-- Outside a frame there is nothing for the raster law to say. -/
theorem State.FramerLaw.outside {s : State} (h : s.FramerLaw) (hfv : s.framer.fv = .low) : s.framer.state ≠ .inFrame := by
  obtain ⟨-, -, hin, -⟩ := h
  intro hstate
  have hhigh := hin (.inl hstate)
  rw [hfv] at hhigh
  cases hhigh

theorem State.RasterKept.execFrameStart {s t : State} (h : s.RasterKept s.columnFor) (hframer : s.FramerLaw) (hgeometry : s.GeometryLaw)
    (hs : s.InHandLaw) (he : execFrameStart s = .next t) : t.RasterAt t.columnFor := by
  have hfinish := h.finishPixel hs
  have hsame := s.finishPixel_framer
  have hnone := s.finishPixel_inHand
  have hfits : s.finishPixel.TableFits s.framer.width s.framer.height := (State.geometryLaw_iff.mp hgeometry).of_raises (.finishPixel s)
  unfold Machine.execFrameStart at he
  dsimp only at he
  generalize s.finishPixel = w at hfinish hsame hnone hfits he
  rw [← hsame] at hfinish hfits
  split at he
  · cases he; exact hfinish.atColumn hnone
  · rename_i hfv
    have hempty : w.filling = [] := hfinish.raster.empty (hsame ▸ hframer.outside (hsame ▸ hfv))
    have hrise : (w.setFv .high).RasterKept (fun _ => w.framer.column) := hfinish.setFramer ⟨rfl, rfl, rfl, rfl⟩ rfl rfl
    have htaken := hrise.takeFrameStart hempty (hfits.of_table rfl)
    have hcount := (w.setFv .high).takeFrameStart_framer
    have hinHand := (w.setFv .high).takeFrameStart_inHand
    split at he <;> cases he
    · exact htaken.takeLineStart.atColumn (by rw [State.takeLineStart_inHand, hinHand]; exact hnone)
    · rename_i hlv
      have hlow : (w.setFv .high).takeFrameStart.framer.lv = .low := by
        rw [hcount]
        split <;> exact hlv
      exact (htaken.congr fun _ => by rw [Framer.column, hlow]).atColumn (hinHand.trans hnone)

theorem State.RasterKept.execLineStart {s t : State} (h : s.RasterKept s.columnFor) (hs : s.InHandLaw) (he : execLineStart s = .next t) :
    t.RasterAt t.columnFor := by
  have hfinish := h.finishPixel hs
  have hsame := s.finishPixel_framer
  have hnone := s.finishPixel_inHand
  unfold Machine.execLineStart at he
  dsimp only at he
  generalize s.finishPixel = w at hfinish hsame hnone he
  rw [← hsame] at hfinish
  split at he <;> cases he
  · exact hfinish.atColumn hnone
  · rename_i hlv
    rw [Framer.column, hlv] at hfinish
    have hrise : (w.setLv .high).RasterKept (fun _ => 0) := hfinish.setFramer ⟨rfl, rfl, rfl, rfl⟩ rfl rfl
    exact hrise.takeLineStart.atColumn (by rw [State.takeLineStart_inHand]; exact hnone)

theorem State.RasterKept.execPixel {s t : State} {pd : PixelLines} (h : s.RasterKept s.columnFor) (hs : s.InHandLaw)
    (he : execPixel pd s = .next t) : t.RasterAt t.columnFor := by
  have hfinish := h.finishPixel hs
  have hsame := s.finishPixel_framer
  have hnone := s.finishPixel_inHand
  unfold Machine.execPixel at he
  dsimp only at he
  generalize s.finishPixel = w at hfinish hsame hnone he
  rw [← hsame] at hfinish
  split at he <;> cases he
  · exact hfinish.atColumn hnone
  · rename_i hout
    have hcount : w.RasterKept (fun _ => w.framer.pixelCount) := by
      by_cases hstate : w.framer.state = .inFrame
      · refine hfinish.congr fun _ => ?_
        rw [Framer.column]
        split
        · rfl
        · rename_i hlv; exact absurd hlv (hout hstate)
      · exact hfinish.of_empty (hfinish.raster.empty hstate) _
    have hrise : (w.setLv .high).RasterKept (fun _ => w.framer.pixelCount) := hcount.setFramer ⟨rfl, rfl, rfl, rfl⟩ rfl rfl
    exact State.RasterKept.takePixel hrise rfl pd

/-- The end of a line, as LINE_END and FRAME_END take it. -/
theorem State.RasterKept.lineFalls {w : State} (h : w.RasterKept (fun _ => w.framer.column)) (hlv : w.framer.lv = .high) :
    (w.setLv .low).takeLineEnd.RasterKept (fun _ => (w.setLv .low).takeLineEnd.framer.column) := by
  rw [Framer.column, hlv] at h
  have hfall : (w.setLv .low).RasterKept (fun _ => w.framer.pixelCount) := h.setFramer ⟨rfl, rfl, rfl, rfl⟩ rfl rfl
  exact State.RasterKept.takeLineEnd hfall rfl

theorem State.RasterKept.execLineEnd {s t : State} (h : s.RasterKept s.columnFor) (hs : s.InHandLaw) (he : execLineEnd s = .next t) :
    t.RasterAt t.columnFor := by
  have hfinish := h.finishPixel hs
  have hsame := s.finishPixel_framer
  have hnone := s.finishPixel_inHand
  unfold Machine.execLineEnd at he
  dsimp only at he
  generalize s.finishPixel = w at hfinish hsame hnone he
  rw [← hsame] at hfinish
  split at he <;> cases he
  · exact hfinish.atColumn hnone
  · rename_i hlv
    exact (hfinish.lineFalls hlv).atColumn (by rw [State.takeLineEnd_inHand]; exact hnone)

theorem State.RasterKept.execFrameEnd {s t : State} (h : s.RasterKept s.columnFor) (hs : s.InHandLaw) (he : execFrameEnd s = .next t) :
    t.RasterAt t.columnFor := by
  have hfinish := h.finishPixel hs
  have hsame := s.finishPixel_framer
  have hnone := s.finishPixel_inHand
  unfold Machine.execFrameEnd at he
  dsimp only at he
  generalize s.finishPixel = w at hfinish hsame hnone he
  rw [← hsame] at hfinish
  have hends : ∀ (u : State) (col : RegionId → Nat), u.RasterKept col →
      (u.setFv .low).takeFrameEnd.RasterAt (u.setFv .low).takeFrameEnd.columnFor := by
    intro u col hu
    have hfall : (u.setFv .low).RasterKept col := hu.setFramer ⟨rfl, rfl, rfl, rfl⟩ rfl rfl
    exact .of_empty hfall.takeFrameEnd_filling _
  split at he
  · cases he; exact hfinish.atColumn hnone
  · split at he <;> cases he
    · rename_i hlv
      exact hends _ _ (hfinish.lineFalls hlv)
    · exact hends _ _ hfinish

/-! ### The other commands -/

/-- Nothing that the raster law reads of the Framer, of the table and of the pixel in hand has changed. -/
structure State.RasterStays (s t : State) : Prop where
  same : s.SameRaster t
  column : ∀ r, t.columnFor r = s.columnFor r

namespace State.RasterStays

theorem of_definition {s t : State} (hf : t.framer = s.framer) (hi : t.inHand = s.inHand)
    (hd : ∀ r, (t.entry r).definition = (s.entry r).definition) : s.RasterStays t :=
  ⟨⟨by rw [hf], by rw [hf], by rw [hf], hd⟩, fun r => by unfold State.columnFor; rw [hf, hi]⟩

theorem refl (s : State) : s.RasterStays s := of_definition rfl rfl fun _ => rfl

theorem of_raises {s t : State} (hk : s.KeepsInput t) (hr : s.Raises t) : s.RasterStays t :=
  of_definition hk.framer hk.inHand hr.definition

theorem of_onlyLink {s t : State} (h : s.OnlyLink t) : s.RasterStays t := by
  rw [State.OnlyLink] at h
  rw [h]
  exact of_definition rfl rfl fun _ => rfl

theorem trans {s t u : State} (h : s.RasterStays t) (h' : t.RasterStays u) : s.RasterStays u :=
  ⟨h.same.trans h'.same, fun r => (h'.column r).trans (h.column r)⟩

/-- The raster law reads the active definitions alone. -/
theorem setStaged (s : State) (r : RegionId) (d : Option RegionDef) : s.RasterStays (s.setStaged r d) :=
  of_definition rfl rfl fun _ => rfl

theorem shrink {s t : State} (h : s.RasterAt s.columnFor) (hst : s.RasterStays t) (hsub : t.filling.Sublist s.filling) :
    t.RasterAt t.columnFor := (h.shrink hsub hst.same).congr hst.column

end State.RasterStays

/-- Off the pixel port a command in IN_FRAME leaves the raster as it is, or it ends every FILLING capture. -/
theorem State.RasterKept.raster_stays {c : Instr} {s t : State} (h : s.RasterKept s.columnFor) (hstate : s.framer.state = .inFrame)
    (hport : atPixelPort c = false) (he : exec c s = .next t) : t.filling = [] ∨ s.RasterStays t := by
  have serve : ∀ {k form} {body : State → List Byte → State × List Byte},
      (∀ p, (body s p).1.filling = [] ∨ s.RasterStays (body s p).1) →
      (s.serve k form body).filling = [] ∨ s.RasterStays (s.serve k form body) := fun hbody =>
    State.serve_keeps (fun t => t.filling = [] ∨ s.RasterStays t) s _ _ _ (.inr (.refl s)) (.inr (.of_onlyLink (.replayHead s)))
      (fun t q p ht => ht.imp id (fun h => h.trans (.of_onlyLink (.finish t q p)))) hbody
  have raises : ∀ {k form} {body : State → List Byte → State × List Byte},
      (∀ p, s.Raises (body s p).1) → (∀ p, s.KeepsInput (body s p).1) →
      (s.serve k form body).filling = [] ∨ s.RasterStays (s.serve k form body) := fun hr hk => serve fun p => .inr (.of_raises (hk p) (hr p))
  cases c with
  | frameStart | lineStart | pixel | lineEnd | frameEnd => cases hport
  | take d => exact .inr (.of_raises (.take he) (.execTake he))
  | stallTimerExpiry d => exact .inr (.of_raises (.stallTimerExpiry he) (.execStallTimerExpiry he))
  | identify | status | poolStatus | getRegion | regionStatus | read | drainStatus | setNotices =>
    exact .inr (.of_onlyLink (.exec rfl he))
  | reset | unknownRequest | replay => exact .inr (.of_onlyLink (.exec rfl he))
  | requestFrame | framingError | lenRefused | gapTimerExpiry | rxdReturnsHigh | frameByteTaken | partReady =>
    exact .inr (.of_onlyLink (.exec rfl he))
  | setInput =>
    cases he
    refine serve (fun p => ?_)
    rcases s.setInput_cases p with heq | ⟨hstopped, -⟩
    · rw [heq]; exact .inr (.refl s)
    · rw [hstate] at hstopped; cases hstopped
  | startInput =>
    cases he
    refine serve (fun p => ?_)
    unfold State.startInput
    split
    · rename_i hstopped; rw [hstate] at hstopped; cases hstopped
    · exact .inr (.refl s)
  | stopInputNow =>
    cases he
    refine serve (fun p => ?_)
    unfold State.stopInputNow
    split
    · left
      have hnow : s.stopNow = (s.abandonAll .inputStopped).enterStopped := by unfold State.stopNow; rw [hstate]
      have hempty := h.raster.abandonAll h.distinct .inputStopped
      rw [State.stopReply, hnow]
      generalize s.abandonAll .inputStopped = u at hempty
      exact State.filling_eq_nil_of_effects hempty (.enterStopped u)
    · exact .inr (.refl s)
  | stopInputFrameEnd =>
    cases he
    refine serve (fun p => ?_)
    unfold State.stopInputFrameEnd
    split
    · have hlater : s.stopAtFrameEnd = { s with framer := { s.framer with stopPending := true } } := by
        unfold State.stopAtFrameEnd; rw [hstate]
      rw [State.stopReply, hlater]
      exact .inr ⟨⟨rfl, rfl, rfl, fun _ => rfl⟩, fun _ => rfl⟩
    · exact .inr (.refl s)
  | defineRegion =>
    cases he
    refine serve (fun p => ?_)
    rcases s.defineRegion_cases p with heq | ⟨-, r, d, -, heq⟩ <;> rw [heq]
    · exact .inr (.refl s)
    · exact .inr (.setStaged s r (some d))
  | clearRegion =>
    cases he
    refine serve (fun p => ?_)
    rcases s.clearRegion_cases p with heq | ⟨-, r, heq⟩ <;> rw [heq]
    · exact .inr (.refl s)
    · exact .inr (.setStaged s r none)
  | cancelCommit =>
    cases he
    refine serve (fun p => ?_)
    unfold State.cancelCommit
    split
    · exact .inr (.of_definition rfl rfl fun _ => rfl)
    · exact .inr (.refl s)
  | commit =>
    cases he
    refine serve (fun p => ?_)
    rcases s.commit_cases p with heq | ⟨-, ⟨hstopped, -⟩ | ⟨-, heq⟩⟩
    · rw [heq]; exact .inr (.refl s)
    · rw [hstate] at hstopped; cases hstopped
    · rw [heq]; exact .inr (.of_definition rfl rfl fun _ => rfl)
  | haltRegion => cases he; exact raises (.haltRegion s) (.haltRegion s)
  | fetch => cases he; exact raises (.fetch s) (.fetch s)
  | release => cases he; exact raises (.release s) (.release s)
  | flush => cases he; exact raises (.flush s) (.flush s)
  | setDrainEnable => cases he; exact raises (.setDrainWith .enableDrain s) (.setDrainWith .enableDrain s)
  | setDrainDisable => cases he; exact raises (.setDrainWith .disableDrain s) (.setDrainWith .disableDrain s)
  | setDrainAbort => cases he; exact raises (.setDrainWith .abortDrain s) (.setDrainWith .abortDrain s)
  | pinReset | frameSent | linkBreak =>
    rcases exec_mayReset rfl he with ⟨cause, rfl⟩ | heq
    · exact .inl rfl
    · rw [heq]; exact .inr (.of_definition rfl rfl fun _ => rfl)

theorem State.RasterKept.exec {c : Instr} {s t : State} (h : s.RasterKept s.columnFor) (hframer : s.FramerLaw) (hgeometry : s.GeometryLaw)
    (hs : s.InHandLaw) (he : Machine.exec c s = .next t) : t.RasterAt t.columnFor := by
  cases hport : atPixelPort c with
  | true =>
    cases c <;> simp only [atPixelPort, Bool.false_eq_true] at hport
    case frameStart => exact h.execFrameStart hframer hgeometry hs he
    case lineStart => exact h.execLineStart hs he
    case pixel => exact h.execPixel hs he
    case lineEnd => exact h.execLineEnd hs he
    case frameEnd => exact h.execFrameEnd hs he
  | false =>
    have hrun : Effects True .ending s t := by
      cases hc : endsAlone c with
      | true => exact .exec_endsAlone hc he
      | false => exact .exec_offPort (fun _ => h.distinct) hport hc he
    by_cases hstate : s.framer.state = .inFrame
    · rcases h.raster_stays hstate hport he with hempty | hstays
      · exact .of_empty hempty _
      · exact hstays.shrink h.raster (hrun.filling_sublist trivial)
    · exact .of_empty (State.filling_eq_nil_of_effects (h.raster.empty hstate) hrun) _

/-! ### O58 -/

/-- Settles O58: the pixels that a FILLING capture holds are counted along every event of the pixel port, and along the going on of the
pixel in hand; no other command moves the raster while a capture is FILLING. -/
theorem stepsKeepFillingCapturesInRaster : Obligations.StepsKeepFillingCapturesInRaster := by
  rintro s t ⟨hdistinct, hentries, hframer, hgeometry, hinHand, hraster⟩ hst
  have hdistinct' : t.RecordsDistinct := step_keeps (D := True) Effect.keeps_recordsDistinct (fun _ => hdistinct) hst hdistinct
  rcases step_cases hst with rfl | ⟨c, rest, -, he⟩
  · have hkept := State.RasterKept.of_laws hdistinct hgeometry hraster
    exact ⟨hdistinct', .of_raises (.servePixel s) hentries, hframer.of_raises (.servePixel s) s.servePixel_framer, hgeometry.servePixel,
      hinHand.servePixel, State.rasterLaw_iff.mpr (hkept.servePixel hinHand)⟩
  · have hkept := State.RasterKept.of_laws (s := { s with pending := rest }) hdistinct hgeometry hraster
    exact ⟨hdistinct', State.EntriesDefined.exec (s := { s with pending := rest }) hentries he,
      State.FramerLaw.exec (s := { s with pending := rest }) hframer he,
      State.GeometryLaw.exec (s := { s with pending := rest }) hgeometry hentries hframer he,
      State.InHandLaw.exec (s := { s with pending := rest }) hinHand he,
      State.rasterLaw_iff.mpr (hkept.exec hframer hgeometry hinHand he)⟩

end Sys2Proof.Machine
end

section
/-! SUPPORT. The step, the reset values, the arbiter, readiness and RESET (O1, O3, O4, O22, O24, O31). -/

namespace Sys2Proof.Machine

/-! ### The step and the values after a reset -/

/-- Settles O1: by the two arms of the step. -/
theorem stepRunsFrontCommand : Obligations.StepRunsFrontCommand := by
  intro c rest s
  exact ⟨step_cons _ c rest rfl, step_nil _ rfl, fun hnone => step_idle _ rfl hnone⟩

theorem State.reset_staged (r : RegionId) : State.reset.table.staged[r] = none := by
  simp [State.reset, RegionTable.reset]

theorem State.reset_entry (r : RegionId) : State.reset.entry r = ActiveEntry.reset := by
  simp [State.entry, State.reset, RegionTable.reset]

theorem State.reset_drain (d : DrainId) : State.reset.drain d = Drain.reset := by
  cases d <;> rfl

theorem State.reset_freePool : State.reset.memory.freePool = List.range 512 := by
  rw [State.reset, CaptureMemory.reset]

/-- Settles O3: each block's reset value is read off; the free pool is the range of the block numbers. -/
theorem resetStateHoldsTableValues : Obligations.ResetStateHoldsTableValues := by
  have hcount : State.reset.freeCount = 512 := by rw [State.freeCount, State.reset_freePool, List.length_range]
  have hmem : ∀ b, b ∈ State.reset.memory.freePool ↔ b < 512 := fun b => by rw [State.reset_freePool, List.mem_range]
  exact ⟨rfl, fun r => ⟨State.reset_staged r, State.reset_entry r⟩, rfl, hcount, hmem, rfl, rfl, State.reset_drain,
    rfl, rfl, rfl, rfl, rfl, rfl, rfl, rfl, rfl, rfl, rfl, rfl, rfl⟩

/-- No capture is in use: what is said of every capture holds. -/
theorem State.reset_captures (P : Capture → Prop) : ∀ c ∈ State.reset.captures, P c :=
  fun _ hc => (List.not_mem_nil hc).elim

theorem State.drainLawOf_reset (d : DrainId) : State.reset.DrainLawOf d := by
  refine ⟨?_, State.reset_captures _, State.reset_captures _, ?_⟩ <;> rw [State.reset_drain]
  · exact List.nodup_nil
  · intro h; cases h

/-- Settles O4: after a reset there is no capture, no definition, no queue entry and no notice for a law to speak of. -/
theorem resetStateSatisfiesEveryLaw : Obligations.ResetStateSatisfiesEveryLaw := by
  have hdistinct : State.reset.RecordsDistinct := ⟨List.nodup_nil, State.reset_captures _⟩
  have hentries : State.reset.EntriesDefined := fun r => by rw [State.reset_entry]; simp [ActiveEntry.reset]
  have hframer : State.reset.FramerLaw := by decide
  have hpool : State.reset.PoolLaw := by
    have hchains : State.reset.chainBlocks = [] := rfl
    rw [State.PoolLaw, hchains, List.append_nil, State.reset_freePool, Config.blocks]
  have hgeometry : State.reset.GeometryLaw := by
    refine ⟨fun r d hd => ?_, fun r d hd => ?_, fun hp => nomatch hp⟩
    · rw [State.reset_staged] at hd; cases hd
    · rw [State.reset_entry] at hd; cases hd
  have hraster : State.reset.RasterLaw := State.rasterLaw_iff.mpr (.of_empty rfl _)
  have hdirectory : State.reset.DirectoryLaw :=
    ⟨hdistinct, State.reset_captures _, fun _ hn => (List.not_mem_nil hn).elim, fun _ hn => (List.not_mem_nil hn).elim⟩
  exact ⟨by decide, hpool, hdirectory, State.reset_captures _, State.reset_captures _, State.reset_captures _, .nil, by decide, hframer,
    by decide, ⟨State.drainLawOf_reset .a, State.drainLawOf_reset .b⟩, hentries, hdistinct, hentries, hframer, hgeometry,
    .of_none rfl, hraster⟩

/-! ### The arbiter -/

section
variable {l : Link} (hidle : l.transmitter = .idle)
include hidle

theorem Link.arbitrate_of_nothing (hreplies : l.replies = []) (hnotices : (if l.resetPending then [] else l.notices) = []) :
    l.arbitrate = l := by
  unfold Link.arbitrate
  rw [hidle, hreplies, hnotices]

theorem Link.arbitrate_of_notice {n : Notice} {rest : List Notice} (hreplies : l.replies = [])
    (hnotices : (if l.resetPending then [] else l.notices) = n :: rest) :
    l.arbitrate = { l with transmitter := .sendingNotice n, notices := rest, repliesInRow := 0 } := by
  unfold Link.arbitrate
  rw [hidle, hreplies, hnotices]

theorem Link.arbitrate_of_reply (hreplies : l.replies ≠ []) (hnotices : (if l.resetPending then [] else l.notices) = []) :
    l.arbitrate = { l with transmitter := .sendingReply, repliesInRow := 0 } := by
  obtain ⟨r, rest, heq⟩ := List.exists_cons_of_ne_nil hreplies
  unfold Link.arbitrate
  rw [hidle, heq, hnotices]

theorem Link.arbitrate_of_both {n : Notice} {rest : List Notice} (hreplies : l.replies ≠ [])
    (hnotices : (if l.resetPending then [] else l.notices) = n :: rest) :
    l.arbitrate = if l.repliesInRow < 4 then { l with transmitter := .sendingReply, repliesInRow := l.repliesInRow + 1 }
      else { l with transmitter := .sendingNotice n, notices := rest, repliesInRow := 0 } := by
  obtain ⟨r, others, heq⟩ := List.exists_cons_of_ne_nil hreplies
  unfold Link.arbitrate
  rw [hidle, heq, hnotices]

end

/-- Settles O22: the arbiter reads the replies, and the notices unless a reset is pending. -/
theorem arbiterChoosesByTable : Obligations.ArbiterChoosesByTable := by
  intro l
  refine ⟨l.arbitrate_busy, fun hidle hclear => ?_, fun hidle hpending => ?_⟩
  · have hnotices : (if l.resetPending then [] else l.notices) = l.notices := by rw [hclear]; rfl
    refine ⟨fun hr hn => Link.arbitrate_of_nothing hidle hr (hnotices.trans hn),
      fun n rest hr hn => Link.arbitrate_of_notice hidle hr (hnotices.trans hn),
      fun hr hn => Link.arbitrate_of_reply hidle hr (hnotices.trans hn), fun hr hn hfew => ?_, fun n rest hr hn hmany => ?_⟩
    · obtain ⟨n, rest, heq⟩ := List.exists_cons_of_ne_nil hn
      rw [Link.arbitrate_of_both hidle hr (hnotices.trans heq), if_pos hfew]
    · rw [Link.arbitrate_of_both hidle hr (hnotices.trans hn), if_neg (Nat.not_lt.mpr hmany)]
  · have hnotices : (if l.resetPending then [] else l.notices) = [] := by rw [hpending]; rfl
    exact ⟨fun hr => Link.arbitrate_of_nothing hidle hr hnotices, fun hr => Link.arbitrate_of_reply hidle hr hnotices⟩

/-! ### Readiness and RESET -/

/-- Settles O24: the arbiter finds STARTED alone in the set and sends it. -/
theorem readinessEntersStarted : Obligations.ReadinessEntersStarted := by
  intro s baud rxd cause hresetting
  refine ⟨_, ?_, rfl, ?_⟩
  · change execPartReady baud rxd s = _
    unfold execPartReady
    rw [hresetting]
    rfl
  · cases cause <;> rfl

/-- A raise leaves no trace while a reset is pending. -/
theorem Link.raise_of_resetPending {l : Link} (h : l.resetPending = true) (n : Notice) : l.raise n = l := by
  rw [Link.raise, if_pos h]

/-- A RESET that stands next is accepted. -/
theorem State.ServesNext.reset_eq {s : State} {q : Request} (h : s.ServesNext .reset q) : s.serveReset = s.acceptReset q := by
  obtain ⟨hhead, hkind, hlength, hroom, hnew⟩ := h
  obtain ⟨rest, hrequests⟩ := List.head?_eq_some_iff.mp hhead
  unfold State.serveReset
  rw [hrequests]
  dsimp only
  rw [if_pos hkind, if_pos hroom, Link.matchesStored_eq_false hnew]
  simp [hlength]

/-- Settles O31: the request is accepted, and reset-pending turns every raise away. -/
theorem resetRequestSetsResetPending : Obligations.ResetRequestSetsResetPending := by
  intro s q hq
  refine ⟨_, congrArg Host.Outcome.next hq.reset_eq, rfl, ?_, fun n => Link.raise_of_resetPending rfl n⟩
  have hreply : replyTo q (replyOk []) = { kind := 0x83, tag := q.tag, payload := [0x00] } := by
    obtain ⟨-, hkind, -⟩ := hq
    rw [replyTo, hkind]
    rfl
  rw [← hreply]
  exact s.finish_replies q (replyOk [])

end Sys2Proof.Machine
end

section
/-! SUPPORT. What the resets free and what a link break leaves (O5). -/

namespace Sys2Proof.Machine

/-- The state after a reset of the part, written out. -/
theorem State.partReset_eq (s : State) (cause : ResetCause) :
    s.partReset cause = { State.reset with
      memory := { freePool := List.range 512, cells := s.memory.cells }, readiness := .resetting cause, pending := s.pending } := by
  rw [State.partReset, CaptureMemory.reset, Config.blocks]

theorem State.partReset_freePool (s : State) (cause : ResetCause) : (s.partReset cause).memory.freePool = List.range 512 := by
  rw [s.partReset_eq]

theorem State.partReset_entry (s : State) (cause : ResetCause) (r : RegionId) : (s.partReset cause).entry r = ActiveEntry.reset := by
  simp [State.entry, State.partReset, State.reset, RegionTable.reset]

theorem isResetReply_of {r : Reply} (hkind : r.kind = 0x83) (hpayload : r.payload = [0x00]) : isResetReply r = true := by
  rw [isResetReply, hkind, hpayload]
  decide

/-- The end of the RESET reply resets the part. -/
theorem State.exec_frameSent_reset {s : State} (hsending : s.link.transmitter = .sendingReply) (hpending : s.link.resetPending = true)
    {r : Reply} (hhead : s.link.replies.head? = some r) (hr : isResetReply r = true) : exec .frameSent s = .next (s.partReset .request) := by
  change execFrameSent s = _
  rw [execFrameSent, hsending]
  dsimp only
  rw [hpending, hhead, Option.any_some, hr]
  rfl

/-- Nothing is held, charged or waiting after a reset. -/
theorem State.partReset_frees (s : State) (cause : ResetCause) :
    (∀ r : RegionId, (s.partReset cause).openCapture r = none ∧ (s.partReset cause).captureList r = [] ∧ (s.partReset cause).held r = 0 ∧
      ((s.partReset cause).entry r).lost = 0 ∧ ((s.partReset cause).entry r).nextSeq = 0 ∧ ((s.partReset cause).entry r).reserve = 0) ∧
    (s.partReset cause).freeRecords.length = 48 ∧ (∀ d : DrainId, ((s.partReset cause).drain d).queue = []) ∧
    (s.partReset cause).freeCount = 512 ∧ (s.partReset cause).link.notices = [] ∧ (s.partReset cause).unmetTotal = 0 ∧
    (s.partReset cause).unmetTotal ≤ (s.partReset cause).freeCount := by
  have hunmet : ∀ r, (s.partReset cause).unmet r = 0 := fun r => by
    rw [State.unmet, s.partReset_entry]
    exact Nat.zero_sub _
  have htotal : (s.partReset cause).unmetTotal = 0 := by
    rw [State.unmetTotal, List.sum_eq_zero_iff]
    intro n hn
    obtain ⟨r, -, rfl⟩ := List.mem_map.mp hn
    exact hunmet r
  have hrecords : (s.partReset cause).freeRecords.length = 48 := by
    have hcaptures : (s.partReset cause).captures = [] := rfl
    rw [State.freeRecords, hcaptures]
    decide
  refine ⟨fun r => ⟨rfl, rfl, rfl, ?_, ?_, ?_⟩, hrecords, fun d => ?_, ?_, rfl, htotal, by rw [htotal]; exact Nat.zero_le _⟩
  · rw [s.partReset_entry]; rfl
  · rw [s.partReset_entry]; rfl
  · rw [s.partReset_entry]; rfl
  · rw [s.partReset_drain]; rfl
  · rw [State.freeCount, s.partReset_freePool, List.length_range]

/-! ### The link break -/

theorem Capture.returned_chain (c : Capture) : c.returned.chain = c.chain := by
  unfold Capture.returned
  split <;> rfl

theorem Capture.returned_region (c : Capture) : c.returned.region = c.region := by
  unfold Capture.returned
  split <;> rfl

/-- A link capture waits after the break. -/
theorem Capture.returned_of_link {c : Capture} (h : c.route = .link) : c.returned = { c with delivery := .waiting } := by
  unfold Capture.returned
  cases hd : c.delivery with
  | active => simp [h]
  | waiting => simp [← hd]

/-- Everything LINK_BREAK can do while no reset is pending. -/
theorem State.exec_linkBreak_cases {s t : State} (hclear : s.link.resetPending = false) (h : exec .linkBreak s = .next t) :
    (¬(s.readiness = .ready ∧ s.link.rxd ≠ .broken) ∧ t = s) ∨
      t = { s with link := s.link.afterBreak, captures := s.captures.map Capture.returned } := by
  change execLinkBreak s = .next t at h
  unfold execLinkBreak at h
  split at h
  · rw [hclear] at h
    cases h
    exact .inr rfl
  · rename_i hno
    cases h
    exact .inl ⟨by simpa using hno, rfl⟩

theorem State.held_returned (s : State) (l : Link) (r : RegionId) :
    State.held { s with link := l, captures := s.captures.map Capture.returned } r = s.held r := by
  unfold State.held State.captureList
  dsimp only
  rw [List.filter_map, List.map_map]
  have hsame : (fun c : Capture => decide (c.region = r)) ∘ Capture.returned = fun c => decide (c.region = r) := by
    funext c
    rw [Function.comp_apply, c.returned_region]
  have hchain : (fun c : Capture => c.chain.length) ∘ Capture.returned = fun c => c.chain.length := by
    funext c
    rw [Function.comp_apply, c.returned_chain]
  rw [hsame, hchain]

/-- Settles O5: both resets leave State.reset with the bytes of the memory; a break touches no chain, and what was fetched waits. -/
theorem resetsFreeEverythingBreakKeepsMemory : Obligations.ResetsFreeEverythingBreakKeepsMemory := by
  have hpin : ∀ s : State, exec .pinReset s = .next (s.partReset .pin) := fun _ => rfl
  refine ⟨fun s => ⟨?_, fun r hsending hpending hhead hkind hpayload => ?_⟩, ?_, fun s t hclear hst => ?_⟩
  · rw [hpin, s.partReset_eq]
  · rw [State.exec_frameSent_reset hsending hpending hhead (isResetReply_of hkind hpayload), s.partReset_eq]
  · rintro s t (hst | ⟨hst, hsending, hpending, r, hhead, hkind, hpayload⟩)
    · rw [hpin] at hst
      cases hst
      exact s.partReset_frees .pin
    · rw [State.exec_frameSent_reset hsending hpending hhead (isResetReply_of hkind hpayload)] at hst
      cases hst
      exact s.partReset_frees .request
  · rcases State.exec_linkBreak_cases hclear hst with ⟨hno, rfl⟩ | rfl
    · exact ⟨rfl, rfl, fun _ => rfl, fun hready hrxd => absurd ⟨hready, hrxd⟩ hno⟩
    · refine ⟨rfl, ?_, s.held_returned s.link.afterBreak, fun _ _ c hc hlink hcomplete => ?_⟩
      · rw [List.map_map]
        exact List.map_congr_left fun c _ => c.returned_chain
      · rw [State.mem_candidates, ← Capture.returned_of_link hlink]
        refine ⟨List.mem_map_of_mem hc, c.returned_region, ?_, ?_⟩
        · rw [Capture.returned_of_link hlink]; exact hcomplete
        · rw [Capture.returned_of_link hlink]

end Sys2Proof.Machine
end

section
/-! SUPPORT. What the Framer does with each event of the pixel port, by its state (O6, O7, O8, O11). -/

namespace Sys2Proof.Machine

/-! ### The events with no pixel in hand -/

section
variable {s : State} (hnone : s.inHand = none)
include hnone

theorem State.exec_frameStart_rise (hfv : s.framer.fv = .low) (hlv : s.framer.lv = .low) :
    exec .frameStart s = .next (s.setFv .high).takeFrameStart := by
  change execFrameStart s = _
  unfold execFrameStart
  rw [State.finishPixel_none s hnone]
  simp only [hfv, hlv]

theorem State.exec_frameStart_rise_in_line (hfv : s.framer.fv = .low) (hlv : s.framer.lv = .high) :
    exec .frameStart s = .next (s.setFv .high).takeFrameStart.takeLineStart := by
  change execFrameStart s = _
  unfold execFrameStart
  rw [State.finishPixel_none s hnone]
  simp only [hfv, hlv]

theorem State.exec_lineStart_rise (hlv : s.framer.lv = .low) : exec .lineStart s = .next (s.setLv .high).takeLineStart := by
  change execLineStart s = _
  unfold execLineStart
  rw [State.finishPixel_none s hnone]
  simp only [hlv]

/-- Outside a frame, or in a line, PIXEL samples LV high. -/
theorem State.exec_pixel_take (h : s.framer.state = .inFrame → s.framer.lv = .high) (pd : PixelLines) :
    exec (.pixel pd) s = .next ((s.setLv .high).takePixel pd) := by
  change execPixel pd s = _
  unfold execPixel
  rw [State.finishPixel_none s hnone]
  dsimp only
  split
  · rename_i hstate hlow
    rw [h hstate] at hlow
    cases hlow
  · rfl

theorem State.exec_lineEnd_fall (hlv : s.framer.lv = .high) : exec .lineEnd s = .next (s.setLv .low).takeLineEnd := by
  change execLineEnd s = _
  unfold execLineEnd
  rw [State.finishPixel_none s hnone]
  simp only [hlv]

theorem State.exec_frameEnd_fall (hfv : s.framer.fv = .high) (hlv : s.framer.lv = .low) :
    exec .frameEnd s = .next (s.setFv .low).takeFrameEnd := by
  change execFrameEnd s = _
  unfold execFrameEnd
  rw [State.finishPixel_none s hnone]
  simp only [hfv, hlv]

theorem State.exec_frameEnd_fall_in_line (hfv : s.framer.fv = .high) (hlv : s.framer.lv = .high) :
    exec .frameEnd s = .next ((s.setLv .low).takeLineEnd.setFv .low).takeFrameEnd := by
  change execFrameEnd s = _
  unfold execFrameEnd
  rw [State.finishPixel_none s hnone]
  simp only [hfv, hlv]

end

/-! ### The events as the Framer takes them, by its state -/

theorem State.takeFrameStart_of_ne {s : State} (h : s.framer.state ≠ .waiting) : s.takeFrameStart = s := by
  unfold State.takeFrameStart
  split
  · exact absurd (by assumption) h
  all_goals rfl

theorem State.takeLineEnd_of_ne {s : State} (h : s.framer.state ≠ .inFrame) : s.takeLineEnd = s := by
  unfold State.takeLineEnd
  split
  · exact absurd (by assumption) h
  all_goals rfl

theorem State.takePixel_of_ne {s : State} (h : s.framer.state ≠ .inFrame) (pd : PixelLines) : s.takePixel pd = s := by
  unfold State.takePixel
  split
  · exact absurd (by assumption) h
  all_goals rfl

theorem State.takeFrameEnd_outside {s : State} (h : s.framer.state = .stopped ∨ s.framer.state = .waiting) : s.takeFrameEnd = s := by
  unfold State.takeFrameEnd
  rcases h with h | h <;> simp only [h]

theorem State.takeLineStart_idle {s : State} (h : s.framer.state = .stopped ∨ s.framer.state = .skipping) : s.takeLineStart = s := by
  unfold State.takeLineStart
  rcases h with h | h <;> simp only [h]

theorem State.takeLineStart_inFrame {s : State} (h : s.framer.state = .inFrame) (hlines : s.framer.linesDone < s.framer.height) :
    s.takeLineStart = { s with framer := { s.framer with pixelCount := 0 } } := by
  unfold State.takeLineStart
  simp only [h, hlines, if_true]

theorem State.takeLineStart_long {s : State} (h : s.framer.state = .inFrame) (hlines : s.framer.height ≤ s.framer.linesDone) :
    s.takeLineStart = (s.countError .frameLong).enterSkipping .frameError .frameLong := by
  unfold State.takeLineStart
  simp only [h, Nat.not_lt.mpr hlines, if_false]

theorem State.takeLineStart_stray {s : State} (h : s.framer.state = .waiting) (hfv : s.framer.fv = .low) :
    s.takeLineStart = (s.countError .strayLine).raiseInput .strayLine := by
  unfold State.takeLineStart
  simp only [h, hfv]

theorem State.takeLineStart_waiting {s : State} (h : s.framer.state = .waiting) (hfv : s.framer.fv = .high) : s.takeLineStart = s := by
  unfold State.takeLineStart
  simp only [h, hfv]

theorem State.takeLineEnd_short {s : State} (h : s.framer.state = .inFrame) (hpixels : s.framer.pixelCount < s.framer.width) :
    s.takeLineEnd = (s.countError .lineShort).enterSkipping .lineError .lineShort := by
  unfold State.takeLineEnd
  simp only [h, hpixels, if_true]

theorem State.takeLineEnd_full {s : State} (h : s.framer.state = .inFrame) (hpixels : s.framer.width ≤ s.framer.pixelCount) :
    s.takeLineEnd = { s.rowEnd s.framer.linesDone with framer := { s.framer with linesDone := s.framer.linesDone + 1 } } := by
  unfold State.takeLineEnd
  simp only [h, Nat.not_lt.mpr hpixels, if_false, State.rowEnd_framer]

/-- PIXEL outside a frame brings LV up. -/
theorem State.exec_pixel_outside {s : State} (hnone : s.inHand = none) (h : s.framer.state ≠ .inFrame) (pd : PixelLines) :
    exec (.pixel pd) s = .next (s.setLv .high) := by
  have hin : s.framer.state = .inFrame → s.framer.lv = .high := fun h' => absurd h' h
  rw [State.exec_pixel_take hnone hin pd, State.takePixel_of_ne (s := s.setLv .high) h pd]

/-- LINE_END outside a frame brings LV down. -/
theorem State.exec_lineEnd_outside {s : State} (hnone : s.inHand = none) (h : s.framer.state ≠ .inFrame) (hlv : s.framer.lv = .high) :
    exec .lineEnd s = .next (s.setLv .low) := by
  rw [State.exec_lineEnd_fall hnone hlv, State.takeLineEnd_of_ne (s := s.setLv .low) h]

/-- FRAME_END outside a frame brings both levels down. -/
theorem State.exec_frameEnd_outside {s : State} (hnone : s.inHand = none) (hfv : s.framer.fv = .high)
    (h : s.framer.state = .stopped ∨ s.framer.state = .waiting) :
    exec .frameEnd s = .next { s with framer := { s.framer with fv := .low, lv := .low } } := by
  have hout : s.framer.state ≠ .inFrame := by rcases h with h | h <;> simp [h]
  cases hlv : s.framer.lv with
  | high =>
    have hline : (s.setLv .low).takeLineEnd = s.setLv .low := State.takeLineEnd_of_ne hout
    rw [State.exec_frameEnd_fall_in_line hnone hfv hlv, hline,
      State.takeFrameEnd_outside (s := (s.setLv .low).setFv .low) h]
    rfl
  | low =>
    rw [State.exec_frameEnd_fall hnone hfv hlv, State.takeFrameEnd_outside (s := s.setFv .low) h, State.setFv, ← hlv]

/-! ### O6: STOPPED -/

/-- Every command but START_INPUT leaves a stopped Framer stopped. -/
theorem State.exec_stays_stopped {c : Instr} {s t : State} (hstate : s.framer.state = .stopped) (h : exec c s = .next t)
    (hc : c ≠ .startInput) : t.framer.state = .stopped := by
  have serve : ∀ {k form} {body : State → List Byte → State × List Byte}, (∀ p, (body s p).1.framer.state = .stopped) →
      (s.serve k form body).framer.state = .stopped := fun hbody => State.serve_keeps (fun t => t.framer.state = .stopped) s _ _ _ hstate
        (by rw [(State.KeepsInput.replayHead s).framer]; exact hstate) (fun _ _ _ ht => ht) hbody
  have hfinish : s.finishPixel.framer.state = .stopped := by rw [s.finishPixel_framer]; exact hstate
  have hne : ∀ u : State, u.framer.state = .stopped → u.framer.state ≠ .inFrame ∧ u.framer.state ≠ .waiting := fun u hu => by simp [hu]
  cases hmoves : State.KeepsInput.movesInput c with
  | false => rw [(State.KeepsInput.exec hmoves h).framer]; exact hstate
  | true =>
    cases c <;> simp only [State.KeepsInput.movesInput, Bool.false_eq_true] at hmoves
    case startInput => exact absurd rfl hc
    case frameStart =>
      change execFrameStart s = .next t at h
      unfold execFrameStart at h
      dsimp only at h
      generalize s.finishPixel = w at hfinish h
      rw [State.takeFrameStart_of_ne (s := w.setFv .high) (hne w hfinish).2, State.takeLineStart_idle (s := w.setFv .high) (.inl hfinish)] at h
      (repeat' split at h) <;> cases h <;> exact hfinish
    case lineStart =>
      change execLineStart s = .next t at h
      unfold execLineStart at h
      dsimp only at h
      generalize s.finishPixel = w at hfinish h
      rw [State.takeLineStart_idle (s := w.setLv .high) (.inl hfinish)] at h
      split at h <;> cases h <;> exact hfinish
    case pixel pd =>
      change execPixel pd s = .next t at h
      unfold execPixel at h
      dsimp only at h
      generalize s.finishPixel = w at hfinish h
      rw [State.takePixel_of_ne (s := w.setLv .high) (hne w hfinish).1] at h
      split at h <;> cases h <;> exact hfinish
    case lineEnd =>
      change execLineEnd s = .next t at h
      unfold execLineEnd at h
      dsimp only at h
      generalize s.finishPixel = w at hfinish h
      rw [State.takeLineEnd_of_ne (s := w.setLv .low) (hne w hfinish).1] at h
      split at h <;> cases h <;> exact hfinish
    case frameEnd =>
      change execFrameEnd s = .next t at h
      unfold execFrameEnd at h
      dsimp only at h
      generalize s.finishPixel = w at hfinish h
      rw [State.takeLineEnd_of_ne (s := w.setLv .low) (hne w hfinish).1,
        State.takeFrameEnd_outside (s := (w.setLv .low).setFv .low) (.inl hfinish),
        State.takeFrameEnd_outside (s := w.setFv .low) (.inl hfinish)] at h
      (repeat' split at h) <;> cases h <;> exact hfinish
    case setInput =>
      cases h
      refine serve fun p => ?_
      rcases s.setInput_cases p with heq | ⟨-, w, h, depth, -, -, -, -, -, heq⟩ <;> rw [heq] <;> exact hstate
    case stopInputNow =>
      cases h
      have hstop : s.stopNow = s := by unfold State.stopNow; rw [hstate]
      refine serve fun p => ?_
      rw [State.stopInputNow, hstop]
      split <;> exact hstate
    case stopInputFrameEnd =>
      cases h
      have hstop : s.stopAtFrameEnd = s := by unfold State.stopAtFrameEnd; rw [hstate]
      refine serve fun p => ?_
      rw [State.stopInputFrameEnd, hstop]
      split <;> exact hstate
    case pinReset | frameSent | linkBreak =>
      rcases exec_mayReset rfl h with ⟨cause, rfl⟩ | heq
      · rfl
      · rw [heq]; exact hstate

/-- In STOPPED no answer of SET_INPUT is STATE. -/
theorem State.setInput_reply_ne {s : State} (hstate : s.framer.state = .stopped) (p : List Byte) : (s.setInput p).2 ≠ [0x04] := by
  unfold State.setInput
  rw [if_neg (not_not_intro hstate)]
  split
  · simp [replyValue]
  · dsimp only
    split
    · simp [replyFit]
    · simp [replyOk]

/-- Settles O6: in STOPPED no event is taken, and only START_INPUT writes the Framer's state. -/
theorem stoppedFramerFollowsLevelsOnly : Obligations.StoppedFramerFollowsLevelsOnly := by
  refine ⟨fun s hstate hnone => ?_, fun c s t hstate h hc => State.exec_stays_stopped hstate h hc, fun s q hq hrunning => ?_,
    fun s q hq hstate => ?_⟩
  · have hin : s.framer.state ≠ .inFrame := by simp [hstate]
    have hwaiting : s.framer.state ≠ .waiting := by simp [hstate]
    refine ⟨fun hfv => ?_, fun hlv => ?_, fun pd => ?_, fun hlv => ?_, fun hfv => State.exec_frameEnd_outside hnone hfv (.inl hstate)⟩
    · have hstart : (s.setFv .high).takeFrameStart = s.setFv .high := State.takeFrameStart_of_ne hwaiting
      have hline : (s.setFv .high).takeLineStart = s.setFv .high := State.takeLineStart_idle (.inl hstate)
      cases hlv : s.framer.lv with
      | low => rw [State.exec_frameStart_rise hnone hfv hlv, hstart]; rfl
      | high => rw [State.exec_frameStart_rise_in_line hnone hfv hlv, hstart, hline]; rfl
    · have hline : (s.setLv .high).takeLineStart = s.setLv .high := State.takeLineStart_idle (.inl hstate)
      rw [State.exec_lineStart_rise hnone hlv, hline]
      rfl
    · exact State.exec_pixel_outside hnone hin pd
    · exact State.exec_lineEnd_outside hnone hin hlv
  · exact hq.exec_eq rfl rfl (s.setInput_of_running q.payload hrunning)
  · refine ⟨_, hq.exec_eq rfl rfl rfl, fun stored hstored => ?_⟩
    rw [State.finish_lastReply] at hstored
    cases hstored
    exact State.setInput_reply_ne hstate q.payload

/-! ### O7: WAITING -/

/-- A frame start in WAITING enters IN_FRAME. -/
theorem State.takeFrameStart_state {s : State} (h : s.framer.state = .waiting) : s.takeFrameStart.framer =
    { s.framer with state := .inFrame, frameNumber := s.framer.frameNumber + 1, linesDone := 0, pixelCount := 0 } := by
  rw [s.takeFrameStart_framer, if_pos h]

/-- With LV high the line start that follows a frame start finds nothing to change. -/
theorem State.takeFrameStart_takeLineStart {s : State} (h : s.framer.state = .waiting) (hheight : 1 ≤ s.framer.height) :
    s.takeFrameStart.takeLineStart = s.takeFrameStart := by
  have hframer := State.takeFrameStart_state h
  generalize s.takeFrameStart = u at hframer ⊢
  have hlines : u.framer.linesDone < u.framer.height := by rw [hframer]; exact hheight
  have hcount : u.framer.pixelCount = 0 := by rw [hframer]
  rw [State.takeLineStart_inFrame (by rw [hframer]) hlines, ← hcount]

/-- FRAME_START in WAITING takes the frame start, whatever LV is. -/
theorem State.exec_frameStart_waiting {s : State} (hnone : s.inHand = none) (h : s.framer.state = .waiting) (hfv : s.framer.fv = .low)
    (hheight : s.framer.lv = .high → 1 ≤ s.framer.height) : exec .frameStart s = .next (s.setFv .high).takeFrameStart := by
  cases hlv : s.framer.lv with
  | low => exact State.exec_frameStart_rise hnone hfv hlv
  | high =>
    rw [State.exec_frameStart_rise_in_line hnone hfv hlv, State.takeFrameStart_takeLineStart (s := s.setFv .high) h (hheight hlv)]

/-- Settles O7: in WAITING a frame start is taken, and a line start with FV low is stray. -/
theorem waitingFramerCountsStrayLines : Obligations.WaitingFramerCountsStrayLines := by
  intro s hstate hnone
  have hin : s.framer.state ≠ .inFrame := by simp [hstate]
  refine ⟨fun hfv hheight => ?_, fun hfv hlv => ?_, fun hfv hlv => ?_, fun pd => ?_, fun hlv => ?_,
    fun hfv => State.exec_frameEnd_outside hnone hfv (.inr hstate)⟩
  · refine ⟨_, State.exec_frameStart_waiting hnone hstate hfv (fun _ => hheight), ?_⟩
    rw [State.takeFrameStart_state (s := s.setFv .high) hstate]
  · rw [State.exec_lineStart_rise hnone hlv, State.takeLineStart_stray (s := s.setLv .high) hstate hfv]
    rfl
  · have hline : (s.setLv .high).takeLineStart = s.setLv .high := State.takeLineStart_waiting hstate hfv
    rw [State.exec_lineStart_rise hnone hlv, hline]
    rfl
  · exact State.exec_pixel_outside hnone hin pd
  · exact State.exec_lineEnd_outside hnone hin hlv

/-! ### O8: the frame start -/

/-- What a frame start in WAITING does: the numbers, the pending commit, the due evaluation. -/
theorem State.takeFrameStart_waiting {s : State} (h : s.framer.state = .waiting) : s.takeFrameStart =
    (State.applyPending { s with framer := { s.framer with
      state := .inFrame, frameNumber := s.framer.frameNumber + 1, linesDone := 0, pixelCount := 0 } }).evaluateDue := by
  unfold State.takeFrameStart
  simp only [h]

theorem mayReset_eq_false {c : Instr} (hpin : c ≠ .pinReset) (hsent : c ≠ .frameSent) (hbreak : c ≠ .linkBreak) : mayReset c = false := by
  cases c with
  | pinReset => exact absurd rfl hpin
  | frameSent => exact absurd rfl hsent
  | linkBreak => exact absurd rfl hbreak
  | _ => rfl

/-- SET_INPUT takes no frame number. -/
theorem State.setInput_frameNumber (s : State) (p : List Byte) : (s.setInput p).1.framer.frameNumber = s.framer.frameNumber := by
  rcases s.setInput_cases p with heq | ⟨-, w, h, depth, -, -, -, -, -, heq⟩ <;> rw [heq]

/-- Settles O8: the frame start as the Framer takes it, and the commands that leave the frame number. -/
theorem frameStartNumbersAppliesEvaluates : Obligations.FrameStartNumbersAppliesEvaluates := by
  refine ⟨fun s hstate hfv hnone => ?_, fun c s t h hstart hpin hsent hbreak => ?_⟩
  · intro framer numbered applied evaluated
    have htaken : (s.setFv .high).takeFrameStart = evaluated := State.takeFrameStart_waiting hstate
    refine ⟨?_, fun hlv => ?_, fun hlv hheight => ?_⟩
    · rw [← htaken, State.takeFrameStart_state (s := s.setFv .high) hstate]
      rfl
    · rw [State.exec_frameStart_rise hnone hfv hlv, htaken]
    · rw [State.exec_frameStart_waiting hnone hstate hfv (fun _ => hheight), htaken]
  · by_cases hset : c = .setInput
    · subst hset
      cases h
      refine State.serve_keeps (fun t => t.framer.frameNumber = s.framer.frameNumber) s _ _ _ rfl ?_ (fun _ _ _ ht => ht)
        s.setInput_frameNumber
      rw [(State.KeepsInput.replayHead s).framer]
    · exact (Framer.SameFrame.exec h (mayReset_eq_false hpin hsent hbreak) hset hstart).frameNumber

end Sys2Proof.Machine
end

section
/-! SUPPORT. Lines in a frame (O11). -/

namespace Sys2Proof.Machine

/-- With no FILLING capture no region has an open capture. -/
theorem State.openCapture_none_of {s : State} (h : ∀ c ∈ s.captures, c.fill ≠ .filling) (r : RegionId) : s.openCapture r = none := by
  rw [State.openCapture_eq, List.find?_eq_none]
  intro c hc
  simp [h c hc]

/-- With no FILLING capture there is nothing to abandon. -/
theorem State.abandonAll_of_none {s : State} (h : ∀ c ∈ s.captures, c.fill ≠ .filling) (reason : LossReason) : s.abandonAll reason = s := by
  have hopen : ∀ r, s.abandonOpen reason r = s := fun r => by rw [State.abandonOpen, State.openCapture_none_of h r]
  rw [State.abandonAll]
  exact List.foldl_fixed' hopen allRegions

theorem State.enterSkipping_of_none {s : State} (h : ∀ c ∈ s.captures, c.fill ≠ .filling) (reason : LossReason) (event : InputEvent) :
    s.enterSkipping reason event = { s with
      framer := { s.framer with state := .skipping }, link := s.link.raise (.input event s.framer.frameNumber) } := by
  rw [State.enterSkipping, State.abandonAll_of_none h]
  rfl

/-- In SKIPPING with LV high a pixel changes nothing. -/
theorem State.exec_pixel_skipping {s : State} (hnone : s.inHand = none) (hstate : s.framer.state = .skipping) (hlv : s.framer.lv = .high)
    (pd : PixelLines) : exec (.pixel pd) s = .next s := by
  have hin : s.framer.state ≠ .inFrame := by simp [hstate]
  rw [State.exec_pixel_outside hnone hin pd, State.setLv, ← hlv]

/-- The pixel of the edge on which the Framer has gone to SKIPPING is not taken. -/
theorem State.exec_pixel_enterSkipping {u : State} (hnone : u.inHand = none) (hlv : u.framer.lv = .high) (reason : LossReason)
    (event : InputEvent) (pd : PixelLines) :
    exec (.pixel pd) (u.enterSkipping reason event) = .next (u.enterSkipping reason event) := by
  have hskipped := u.enterSkipping_framer reason event
  have htnone := u.enterSkipping_inHand reason event
  generalize u.enterSkipping reason event = t at hskipped htnone ⊢
  exact State.exec_pixel_skipping (htnone.trans hnone) (by rw [hskipped]) (by rw [hskipped]; exact hlv) pd

/-- Settles O11: the line start and the line end as the Framer takes them in IN_FRAME, at the geometry and past it. -/
theorem lineStartAndEndCheckGeometry : Obligations.LineStartAndEndCheckGeometry := by
  refine ⟨fun s hstate hlv hnone => ⟨fun hlines => ?_, fun hlines => ?_⟩, fun s hstate hlv hnone => ⟨fun hpixels => ?_, fun hpixels => ?_⟩⟩
  · rw [State.exec_lineStart_rise hnone hlv, State.takeLineStart_inFrame (s := s.setLv .high) hstate hlines]
    rfl
  · intro counted t
    have hcounted : (s.setLv .high).countError .frameLong = counted := rfl
    refine ⟨?_, fun pd => State.exec_pixel_enterSkipping (u := counted) hnone rfl _ _ pd, fun hidle => ?_⟩
    · rw [State.exec_lineStart_rise hnone hlv, State.takeLineStart_long (s := s.setLv .high) hstate hlines, hcounted]
    · have hquiet : ∀ c ∈ counted.captures, c.fill ≠ .filling := hidle
      exact (State.enterSkipping_of_none hquiet .frameError .frameLong :)
  · rw [State.exec_lineEnd_fall hnone hlv, State.takeLineEnd_short (s := s.setLv .low) hstate hpixels]
    rfl
  · rw [State.exec_lineEnd_fall hnone hlv, State.takeLineEnd_full (s := s.setLv .low) hstate hpixels]
    rfl

end Sys2Proof.Machine
end

section
/-! SUPPORT. A pixel in the frame and its block requests (O12). -/

namespace Sys2Proof.Machine

/-! ### One block request for each step -/

/-- The state after the first `i` of the regions `l` have been served the pixel (x, y). -/
def State.servedFirst (x y : Nat) (v : Half) (l : List RegionId) (s : State) (i : Nat) : State :=
  (l.take i).foldl (State.serveRegion x y v) s

/-- The region of index `i` asks for a block when its turn comes. -/
def State.AsksAt (x y : Nat) (v : Half) (l : List RegionId) (s : State) (i : Nat) : Prop :=
  ∃ r ∈ l[i]?, (s.servedFirst x y v l i).asksForBlock r x y = true

theorem State.asksForBlock_iff {s : State} {r : RegionId} {x y : Nat} : s.asksForBlock r x y = true ↔
    s.regionSamples r x y = true ∧ ∃ c ∈ s.openCapture r, c.bytesWritten % 512 = 0 := by
  unfold State.asksForBlock
  rw [Bool.and_eq_true]
  cases hc : s.openCapture r <;> simp

section
variable {x y : Nat} {v : Half} {r : RegionId} {l : List RegionId} {s : State}

theorem State.servedFirst_succ (i : Nat) :
    s.servedFirst x y v (r :: l) (i + 1) = (State.serveRegion x y v s r).servedFirst x y v l i := rfl

theorem State.asksAt_zero : s.AsksAt x y v (r :: l) 0 ↔ s.asksForBlock r x y = true := by
  simp [State.AsksAt, State.servedFirst]

theorem State.asksAt_succ (i : Nat) : s.AsksAt x y v (r :: l) (i + 1) ↔ (State.serveRegion x y v s r).AsksAt x y v l i := by
  simp [State.AsksAt, State.servedFirst_succ]

end

/-- A run serves `k` of the regions: one request at most is taken, none if one has been taken before, and the run ends early only at a
request after another. -/
structure State.RunServes (x y : Nat) (v : Half) (asked : Bool) (l : List RegionId) (s : State) (k : Nat) : Prop where
  le : k ≤ l.length
  eq : State.serveRegions x y v asked l s = { s.servedFirst x y v l k with
    inHand := if k = l.length then none else some { x := x, y := y, value := v, rest := l.drop k } }
  single : ∀ i j, i < j → j < k → ¬(s.AsksAt x y v l i ∧ s.AsksAt x y v l j)
  none_after : asked = true → ∀ i, i < k → ¬s.AsksAt x y v l i
  stopped : k < l.length → s.AsksAt x y v l k ∧ (asked = true ∨ ∃ i, i < k ∧ s.AsksAt x y v l i)

theorem State.runServes_here {x y : Nat} {v : Half} {asked : Bool} {r : RegionId} {rest : List RegionId} {s : State}
    (h : (asked && s.asksForBlock r x y) = true) : s.RunServes x y v asked (r :: rest) 0 := by
  have hasked := (Bool.and_eq_true_iff.mp h).1
  have hasks := State.asksAt_zero (v := v) (l := rest).mpr (Bool.and_eq_true_iff.mp h).2
  refine ⟨Nat.zero_le _, ?_, fun i j _ hj => absurd hj (Nat.not_lt_zero j), fun _ i hi => absurd hi (Nat.not_lt_zero i),
    fun _ => ⟨hasks, .inl hasked⟩⟩
  unfold State.serveRegions
  rw [if_pos h]
  rfl

/-- A region that does not end the run adds its request to those of the rest. -/
theorem State.RunServes.cons {x y : Nat} {v : Half} {asked : Bool} {r : RegionId} {rest : List RegionId} {s : State} {k : Nat}
    (hgo : (asked && s.asksForBlock r x y) = false)
    (h : (State.serveRegion x y v s r).RunServes x y v (asked || s.asksForBlock r x y) rest k) :
    s.RunServes x y v asked (r :: rest) (k + 1) := by
  obtain ⟨hle, heq, hsingle, hafter, hstopped⟩ := h
  refine ⟨Nat.succ_le_succ hle, ?_, fun i j hij hj => ?_, fun hasked i hi => ?_, fun hk => ?_⟩
  · unfold State.serveRegions
    rw [hgo, if_neg Bool.false_ne_true, heq, State.servedFirst_succ]
    simp
  · obtain ⟨j, rfl⟩ := Nat.exists_eq_succ_of_ne_zero (Nat.ne_of_gt (Nat.zero_lt_of_lt hij))
    rw [State.asksAt_succ]
    rintro ⟨hi, hasks⟩
    cases i with
    | zero =>
      rw [State.asksAt_zero] at hi
      exact hafter (by rw [hi, Bool.or_true]) j (Nat.lt_of_succ_lt_succ hj) hasks
    | succ i =>
      rw [State.asksAt_succ] at hi
      exact hsingle i j (Nat.lt_of_succ_lt_succ hij) (Nat.lt_of_succ_lt_succ hj) ⟨hi, hasks⟩
  · cases i with
    | zero =>
      rw [State.asksAt_zero]
      intro hasks
      rw [hasked, hasks] at hgo
      cases hgo
    | succ i =>
      rw [State.asksAt_succ]
      exact hafter (by rw [hasked, Bool.true_or]) i (Nat.lt_of_succ_lt_succ hi)
  · obtain ⟨hasks, hbefore⟩ := hstopped (Nat.lt_of_succ_lt_succ hk)
    refine ⟨(State.asksAt_succ k).mpr hasks, ?_⟩
    rcases hbefore with hor | ⟨i, hi, hasks'⟩
    · rcases Bool.or_eq_true_iff.mp hor with hasked | hfirst
      · exact .inl hasked
      · exact .inr ⟨0, Nat.succ_pos k, State.asksAt_zero.mpr hfirst⟩
    · exact .inr ⟨i + 1, Nat.succ_lt_succ hi, (State.asksAt_succ i).mpr hasks'⟩

theorem State.exists_runServes (x y : Nat) (v : Half) (asked : Bool) (l : List RegionId) (s : State) :
    ∃ k, s.RunServes x y v asked l k := by
  induction l generalizing asked s with
  | nil => exact ⟨0, Nat.le_refl 0, rfl, fun i j _ hj => absurd hj (Nat.not_lt_zero j), fun _ i hi => absurd hi (Nat.not_lt_zero i),
      fun h => absurd h (Nat.lt_irrefl 0)⟩
  | cons r rest ih =>
    cases hgo : asked && s.asksForBlock r x y with
    | true => exact ⟨0, State.runServes_here hgo⟩
    | false =>
      obtain ⟨k, hk⟩ := ih (asked || s.asksForBlock r x y) (State.serveRegion x y v s r)
      exact ⟨k + 1, hk.cons hgo⟩

theorem State.servedUpTo_serveRegions (x y : Nat) (v : Half) (l : List RegionId) (s : State) :
    State.ServedUpTo x y v l s (State.serveRegions x y v false l s) := by
  obtain ⟨k, hle, heq, hsingle, -, hstopped⟩ := s.exists_runServes x y v false l
  have hasks : ∀ i, s.AsksAt x y v l i ↔ ∃ r ∈ l[i]?, (s.servedFirst x y v l i).regionSamples r x y = true ∧
      ∃ c ∈ (s.servedFirst x y v l i).openCapture r, c.bytesWritten % 512 = 0 := fun i => by
    simp only [State.AsksAt, State.asksForBlock_iff]
  refine ⟨k, hle, heq, fun i j hij hj h => ?_, fun hk => ?_⟩
  · exact hsingle i j hij hj ⟨(hasks i).mpr h.1, (hasks j).mpr h.2⟩
  · obtain ⟨hlast, hbefore⟩ := hstopped hk
    obtain ⟨i, hi, hfirst⟩ := hbefore.resolve_left Bool.false_ne_true
    exact ⟨(hasks k).mp hlast, i, hi, (hasks i).mp hfirst⟩

/-! ### The pixel in hand under the commands -/

theorem State.finishPixel_finishPixel (s : State) : s.finishPixel.finishPixel = s.finishPixel :=
  State.finishPixel_none _ s.finishPixel_inHand

theorem exec_finishPixel {c : Instr} (h : atPixelPort c = true) (s : State) : exec c s = exec c s.finishPixel := by
  cases c <;> simp only [atPixelPort, Bool.false_eq_true] at h
  case frameStart => change execFrameStart s = execFrameStart s.finishPixel; rw [execFrameStart, execFrameStart, s.finishPixel_finishPixel]
  case lineStart => change execLineStart s = execLineStart s.finishPixel; rw [execLineStart, execLineStart, s.finishPixel_finishPixel]
  case pixel pd => change execPixel pd s = execPixel pd s.finishPixel; rw [execPixel, execPixel, s.finishPixel_finishPixel]
  case lineEnd => change execLineEnd s = execLineEnd s.finishPixel; rw [execLineEnd, execLineEnd, s.finishPixel_finishPixel]
  case frameEnd => change execFrameEnd s = execFrameEnd s.finishPixel; rw [execFrameEnd, execFrameEnd, s.finishPixel_finishPixel]

/-- In a frame a command that is no event of the port leaves the pixel in hand, STOP_INPUT(NOW) and the resets apart. -/
theorem State.exec_inHand {c : Instr} {s t : State} (hport : atPixelPort c = false) (hstate : s.framer.state = .inFrame)
    (h : exec c s = .next t) (hstop : c ≠ .stopInputNow) (hreset : mayReset c = false) : t.inHand = s.inHand := by
  have serve : ∀ {k form} {body : State → List Byte → State × List Byte}, (∀ p, (body s p).1.inHand = s.inHand) →
      (s.serve k form body).inHand = s.inHand := fun hbody => State.serve_keeps (fun t => t.inHand = s.inHand) s _ _ _ rfl
        (State.KeepsInput.replayHead s).inHand (fun _ _ _ ht => ht) hbody
  cases hc : State.KeepsInput.movesInput c with
  | false => exact (State.KeepsInput.exec hc h).inHand
  | true =>
    cases c <;> simp only [State.KeepsInput.movesInput, Bool.false_eq_true] at hc
    case frameStart | lineStart | pixel | lineEnd | frameEnd => cases hport
    case pinReset | frameSent | linkBreak => cases hreset
    case stopInputNow => exact absurd rfl hstop
    case setInput =>
      cases h
      refine serve fun p => ?_
      rcases s.setInput_cases p with heq | ⟨hstopped, -⟩
      · rw [heq]
      · rw [hstate] at hstopped; cases hstopped
    case startInput =>
      cases h
      refine serve fun p => ?_
      unfold State.startInput
      split <;> rfl
    case stopInputFrameEnd =>
      cases h
      have hlater : s.stopAtFrameEnd.inHand = s.inHand := by unfold State.stopAtFrameEnd; rw [hstate]
      refine serve fun p => ?_
      unfold State.stopInputFrameEnd
      split
      · exact hlater
      · rfl

/-! ### Values and sampling -/

/-- The pixel value drops the lines above the depth (R22). -/
theorem toNat_pixelValue (pd : PixelLines) : (pixelValue .bits8 pd).toNat = pd.toNat % 256 ∧
    (pixelValue .bits10 pd).toNat = pd.toNat % 1024 ∧ (pixelValue .bits12 pd).toNat = pd.toNat := by
  have hlt := pd.isLt
  have hwidth : pd.toNat % 65536 = pd.toNat := Nat.mod_eq_of_lt (by omega)
  have h8 : pd.toNat &&& 255 = pd.toNat % 256 := Nat.and_two_pow_sub_one_eq_mod pd.toNat 8
  have h10 : pd.toNat &&& 1023 = pd.toNat % 1024 := Nat.and_two_pow_sub_one_eq_mod pd.toNat 10
  refine ⟨?_, ?_, ?_⟩
  · simp [pixelValue, hwidth, h8]
  · simp [pixelValue, hwidth, h10]
  · simp [pixelValue, hwidth]

theorem State.regionSamples_iff (s : State) (r : RegionId) (x y : Nat) : s.regionSamples r x y = true ↔
    ∃ d, (s.entry r).definition = some d ∧ d.x0 ≤ x ∧ x < d.x0 + d.width ∧ (x - d.x0) % d.colStep = 0 ∧
      d.y0 ≤ y ∧ y < d.y0 + d.height ∧ (y - d.y0) % d.rowStep = 0 := by
  unfold State.regionSamples
  cases (s.entry r).definition <;> simp [RegionDef.samples, and_assoc]

theorem State.takePixel_inFrame {s : State} (h : s.framer.state = .inFrame) (hpixels : s.framer.pixelCount < s.framer.width)
    (pd : PixelLines) : s.takePixel pd = State.serveRegions s.framer.pixelCount s.framer.linesDone (pixelValue s.framer.depth pd) false
      allRegions { s with framer := { s.framer with pixelCount := s.framer.pixelCount + 1 } } := by
  unfold State.takePixel
  simp only [h]
  rw [if_pos (Nat.succ_le_of_lt hpixels)]
  rfl

theorem State.takePixel_long {s : State} (h : s.framer.state = .inFrame) (hpixels : s.framer.width ≤ s.framer.pixelCount)
    (pd : PixelLines) : s.takePixel pd =
      (State.countError { s with framer := { s.framer with pixelCount := s.framer.pixelCount + 1 } } .lineLong).enterSkipping
        .lineError .lineLong := by
  unfold State.takePixel
  simp only [h]
  rw [if_neg (Nat.not_le.mpr (Nat.lt_succ_of_le hpixels))]

/-- Settles O12: PIXEL and an idle step each run the regions up to the next block request but one. -/
theorem pixelCountedAndHandedToRegions : Obligations.PixelCountedAndHandedToRegions := by
  refine ⟨fun s pd hstate hlv hnone => ?_, ⟨fun s p hpending hp => ?_, fun c s t hport hstate h hstop hpin hsent hbreak => ?_,
    fun c s hport => ?_⟩, toNat_pixelValue, State.regionSamples_iff⟩
  · intro counted
    have hlevel : s.setLv .high = s := by rw [State.setLv, ← hlv]
    have hexec : exec (.pixel pd) s = .next (s.takePixel pd) := by rw [State.exec_pixel_take hnone (fun _ => hlv) pd, hlevel]
    refine ⟨fun hpixels => ⟨_, hexec, ?_⟩, fun hpixels => ?_⟩
    · rw [State.takePixel_inFrame hstate hpixels]
      exact State.servedUpTo_serveRegions _ _ _ _ _
    · rw [hexec, State.takePixel_long hstate hpixels]
      rfl
  · have hserve : s.servePixel = State.serveRegions p.x p.y p.value false p.rest s := by rw [State.servePixel, hp]
    exact ⟨_, step_nil s hpending, hserve ▸ State.servedUpTo_serveRegions _ _ _ _ _⟩
  · exact State.exec_inHand hport hstate h hstop (mayReset_eq_false hpin hsent hbreak)
  · refine ⟨exec_finishPixel hport s, s.finishPixel_inHand, fun hnone => State.finishPixel_none s hnone, fun p hp => ?_⟩
    rw [State.finishPixel, hp]
    rfl

end Sys2Proof.Machine
end

section
/-! SUPPORT. The frame end and the entries into SKIPPING and STOPPED (O13). -/

namespace Sys2Proof.Machine

theorem State.takeFrameEnd_done {s : State} (h : s.framer.state = .inFrame) (hlines : s.framer.height ≤ s.framer.linesDone) :
    s.takeFrameEnd = s.leaveFrame := by
  unfold State.takeFrameEnd
  simp only [h, Nat.not_lt.mpr hlines, if_false]

theorem State.takeFrameEnd_short {s : State} (h : s.framer.state = .inFrame) (hlines : s.framer.linesDone < s.framer.height) :
    s.takeFrameEnd = (((s.countError .frameShort).abandonAll .shortFrame).raiseInput .frameShort).leaveFrame := by
  unfold State.takeFrameEnd
  simp only [h, hlines, if_true]

theorem State.takeFrameEnd_skipping {s : State} (h : s.framer.state = .skipping) : s.takeFrameEnd = s.leaveFrame := by
  unfold State.takeFrameEnd
  simp only [h]

/-- The line end moves neither level. -/
theorem State.takeLineEnd_levels (s : State) : s.takeLineEnd.framer.lv = s.framer.lv ∧ s.takeLineEnd.framer.fv = s.framer.fv := by
  by_cases h : s.framer.state = .inFrame
  · rcases Nat.lt_or_ge s.framer.pixelCount s.framer.width with hpixels | hpixels
    · rw [State.takeLineEnd_short h hpixels, State.enterSkipping_framer, s.countError_frame]
      exact ⟨rfl, rfl⟩
    · rw [State.takeLineEnd_full h hpixels]
      exact ⟨rfl, rfl⟩
  · rw [State.takeLineEnd_of_ne h]
    exact ⟨rfl, rfl⟩

/-- With LV high FRAME_END is LINE_END and then FRAME_END. -/
theorem State.exec_frameEnd_after_lineEnd {s u : State} (hnone : s.inHand = none) (hfv : s.framer.fv = .high) (hlv : s.framer.lv = .high)
    (hu : exec .lineEnd s = .next u) : exec .frameEnd s = exec .frameEnd u := by
  rw [State.exec_lineEnd_fall hnone hlv] at hu
  obtain ⟨hlv', hfv'⟩ := (s.setLv .low).takeLineEnd_levels
  have hnone' : (s.setLv .low).takeLineEnd.inHand = none := (State.takeLineEnd_inHand _).trans hnone
  rw [State.exec_frameEnd_fall_in_line hnone hfv hlv]
  generalize (s.setLv .low).takeLineEnd = w at hu hlv' hfv' hnone' ⊢
  cases hu
  exact (State.exec_frameEnd_fall hnone' (hfv'.trans hfv) hlv').symm

/-- The entry into SKIPPING: the FILLING captures end, INPUT is raised, the state changes. -/
theorem State.enterSkipping_eq (s : State) (reason : LossReason) (event : InputEvent) : s.enterSkipping reason event =
    { s.abandonAll reason with
      framer := { s.framer with state := .skipping }
      link := (s.abandonAll reason).link.raise (.input event s.framer.frameNumber) } := by
  have hframer := s.abandonAll_framer reason
  unfold State.enterSkipping State.raiseInput
  generalize s.abandonAll reason = u at hframer ⊢
  rw [State.raise, hframer]

/-- Settles O13: the frame end by the Framer's state, and the two entries written out. -/
theorem frameEndAndEntriesInOrder : Obligations.FrameEndAndEntriesInOrder := by
  refine ⟨fun s hfv hnone => ?_, fun s reason event => ?_, fun s => ?_, fun s hstate hnone => ?_⟩
  · intro leave fallen counted
    have hleave : ∀ u : State, u.framer.stopPending = s.framer.stopPending → u.leaveFrame = leave u := by
      intro u hu
      rw [State.leaveFrame, hu]
      rfl
    refine ⟨fun hlv hstate hlines => ?_, fun hlv hstate hlines => ?_, fun hlv hstate => ?_,
      fun hlv u hu => State.exec_frameEnd_after_lineEnd hnone hfv hlv hu⟩
    · rw [State.exec_frameEnd_fall hnone hfv hlv, State.takeFrameEnd_done (s := s.setFv .low) hstate hlines]
      exact congrArg _ (hleave fallen rfl)
    · have hcounted : (s.setFv .low).countError .frameShort = counted := rfl
      have hframer : (counted.abandonAll .shortFrame).framer = counted.framer := counted.abandonAll_framer .shortFrame
      rw [State.exec_frameEnd_fall hnone hfv hlv, State.takeFrameEnd_short (s := s.setFv .low) hstate hlines, hcounted]
      generalize counted.abandonAll .shortFrame = w at hframer ⊢
      have hraised : w.raiseInput .frameShort = w.raise (.input .frameShort s.framer.frameNumber) := by rw [State.raiseInput, hframer]
      rw [hraised, hleave]
      rw [State.raise_framer, hframer]
    · rw [State.exec_frameEnd_fall hnone hfv hlv, State.takeFrameEnd_skipping (s := s.setFv .low) hstate]
      exact congrArg _ (hleave fallen rfl)
  · have hskip := s.enterSkipping_eq reason event
    have hframer := s.abandonAll_framer reason
    rw [State.abandonAll] at hskip hframer
    exact ⟨hframer, hskip⟩
  · intro stopped
    rfl
  · have hin : s.framer.state ≠ .inFrame := by simp [hstate]
    have hline : (s.setLv .high).takeLineStart = s.setLv .high := State.takeLineStart_idle (.inr hstate)
    refine ⟨fun hlv => ?_, State.exec_pixel_outside hnone hin, State.exec_lineEnd_outside hnone hin⟩
    rw [State.exec_lineStart_rise hnone hlv, hline]
    rfl

end Sys2Proof.Machine
end

section
/-! SUPPORT. The blocks that the regions hold and those that their reserves still count on (O15, O16, O19). -/

namespace Sys2Proof.Machine

/-! ### Blocks held in a list of captures -/

/-- The blocks that the captures of region `r` hold. -/
def heldIn (l : List Capture) (r : RegionId) : Nat := ((l.filter (fun c => c.region = r)).map (fun c => c.chain.length)).sum

theorem State.held_eq (s : State) (r : RegionId) : s.held r = heldIn s.captures r := rfl

theorem heldIn_append (l l' : List Capture) (r : RegionId) : heldIn (l ++ l') r = heldIn l r + heldIn l' r := by
  simp [heldIn]

theorem heldIn_cons (c : Capture) (l : List Capture) (r : RegionId) :
    heldIn (c :: l) r = (if r = c.region then c.chain.length else 0) + heldIn l r := by
  by_cases h : c.region = r
  · simp [heldIn, h]
  · simp [heldIn, h, Ne.symm h]

theorem heldIn_congr {l l' : List Capture} (h : l'.map (fun c => (c.region, c.chain)) = l.map (fun c => (c.region, c.chain)))
    (r : RegionId) : heldIn l' r = heldIn l r := by
  have hfold : ∀ l : List Capture, heldIn l r =
      (((l.map (fun c => (c.region, c.chain))).filter (fun p => p.1 = r)).map (fun p => p.2.length)).sum := by
    intro l
    rw [List.filter_map, List.map_map]
    rfl
  rw [hfold, hfold, h]

/-- What is left without the capture `c`. -/
theorem State.RecordsDistinct.heldIn_drop {s : State} (hs : s.RecordsDistinct) {c : Capture} (hc : c ∈ s.captures) (r : RegionId) :
    heldIn s.captures r = heldIn (s.captures.filter (fun x => x.slot ≠ c.slot)) r + if r = c.region then c.chain.length else 0 := by
  obtain ⟨before, after, hsplit, -, -, hdrop⟩ := hs.split hc
  rw [hdrop, hsplit, heldIn_append, heldIn_append, heldIn_cons]
  omega

/-- A change of the capture `c` changes what its region holds by what its chain gains or loses. -/
theorem State.RecordsDistinct.heldIn_update {s : State} (hs : s.RecordsDistinct) {c : Capture} (hc : c ∈ s.captures)
    {f : Capture → Capture} (hf : (f c).region = c.region) (r : RegionId) :
    heldIn (s.captures.map (fun x => if x.slot = c.slot then f x else x)) r + (if r = c.region then c.chain.length else 0) =
      heldIn s.captures r + if r = c.region then (f c).chain.length else 0 := by
  obtain ⟨before, after, hsplit, -, hmap, -⟩ := hs.split hc
  rw [hmap, hsplit, heldIn_append, heldIn_append, heldIn_cons, heldIn_cons, hf]
  omega

/-! ### Sums over the regions -/

theorem sum_allRegions_single (r : RegionId) (n : Nat) : (allRegions.map (fun x => if x = r then n else 0)).sum = n := by
  rw [allRegions_eq_finRange, ← Fin.sum_univ_def]
  simp

/-- The sum over the other regions. -/
theorem sum_allRegions_others (f : RegionId → Nat) (r : RegionId) :
    ((allRegions.filter (fun x => x ≠ r)).map f).sum + f r = (allRegions.map f).sum := by
  have hmem : r ∈ allRegions := allRegions_eq_finRange ▸ List.mem_finRange r
  have herase : allRegions.erase r = allRegions.filter (fun x => x ≠ r) := by
    rw [allRegions_nodup.erase_eq_filter]
    exact List.filter_congr fun x _ => by by_cases h : x = r <;> simp [h]
  rw [← herase, Nat.add_comm, List.sum_map_erase f hmem]

theorem sum_allRegions_add (f g : RegionId → Nat) :
    (allRegions.map (fun r => f r + g r)).sum = (allRegions.map f).sum + (allRegions.map g).sum := List.sum_map_add

theorem sum_allRegions_le {f g : RegionId → Nat} (h : ∀ r, f r ≤ g r) : (allRegions.map f).sum ≤ (allRegions.map g).sum :=
  List.sum_le_sum fun r _ => h r

theorem State.unmet_le_total (s : State) (r : RegionId) : s.unmet r ≤ s.unmetTotal :=
  List.le_sum_of_mem (List.mem_map_of_mem (allRegions_eq_finRange ▸ List.mem_finRange r))

/-! ### Blocks given back -/

/-- From `s` to `t` the regions give blocks back to the free pool, and nothing is taken from it. -/
def State.GivesBack (s t : State) : Prop :=
  ∃ f : RegionId → Nat, t.freeCount = s.freeCount + (allRegions.map f).sum ∧ ∀ r, s.held r = t.held r + f r

namespace State.GivesBack

variable {s t : State}

theorem of_same (hp : t.memory.freePool = s.memory.freePool)
    (hc : t.captures.map (fun c => (c.region, c.chain)) = s.captures.map (fun c => (c.region, c.chain))) : s.GivesBack t :=
  ⟨fun _ => 0, by simp [State.freeCount, hp], fun r => (heldIn_congr hc r).symm⟩

theorem refl (s : State) : s.GivesBack s := of_same rfl rfl

theorem trans {u : State} (h : s.GivesBack t) (h' : t.GivesBack u) : s.GivesBack u := by
  obtain ⟨f, hfree, hheld⟩ := h
  obtain ⟨g, hfree', hheld'⟩ := h'
  refine ⟨fun r => f r + g r, ?_, fun r => ?_⟩
  · rw [hfree', hfree, sum_allRegions_add, Nat.add_assoc]
  · rw [hheld r, hheld' r, Nat.add_assoc, Nat.add_comm (g r)]

/-- The capture `c` leaves with its chain. -/
theorem drop (hs : s.RecordsDistinct) {c : Capture} (hc : c ∈ s.captures) (hp : t.memory.freePool = s.memory.freePool ++ c.chain)
    (hcaptures : t.captures = s.captures.filter (fun x => x.slot ≠ c.slot)) : s.GivesBack t := by
  refine ⟨fun r => if r = c.region then c.chain.length else 0, ?_, fun r => ?_⟩
  · rw [sum_allRegions_single, State.freeCount, hp, List.length_append]
    rfl
  · rw [s.held_eq, hs.heldIn_drop hc r, t.held_eq, hcaptures]

/-- The capture `c` gives `n` blocks of its chain back. -/
theorem update (hs : s.RecordsDistinct) {c : Capture} (hc : c ∈ s.captures) {f : Capture → Capture} (hf : (f c).region = c.region)
    {given : List Nat} (hp : t.memory.freePool = s.memory.freePool ++ given) (hn : (f c).chain.length + given.length = c.chain.length)
    (hcaptures : t.captures = s.captures.map (fun x => if x.slot = c.slot then f x else x)) : s.GivesBack t := by
  refine ⟨fun r => if r = c.region then given.length else 0, ?_, fun r => ?_⟩
  · rw [sum_allRegions_single, State.freeCount, hp, List.length_append]
    rfl
  · have hheld := hs.heldIn_update hc hf r
    rw [s.held_eq, t.held_eq, hcaptures]
    split at hheld <;> simp_all
    omega

theorem promotes (h : s.Promotes t) : s.GivesBack t := of_same (by rw [h.1]) (h.map_eq fun _ => rfl)

theorem freeCapture (hs : s.RecordsDistinct) {c : Capture} (hc : c ∈ s.captures) : s.GivesBack (s.freeCapture c) :=
  drop hs hc rfl rfl

end State.GivesBack

/-- Every effect that is not a write, a release, a link break or a reset gives blocks back, if any change hands. -/
theorem Effect.givesBack {s t : State} (h : Effect True .opening s t) (hs : s.RecordsDistinct) : s.GivesBack t := by
  cases h with
  | quiet h => exact .of_same (by rw [h.memory]) (by rw [h.captures])
  | astray hD => exact absurd trivial hD
  | adjust d y h => exact .of_same (by simp) (by simp)
  | free c hw hc => exact .freeCapture hs (hc trivial)
  | mark c reason ha hc => exact .update hs (State.openCapture_eq_some (hc trivial)).1 rfl rfl (Nat.zero_add _) rfl
  | fetch c hc hl hw => exact .of_same rfl (map_update_keeps fun _ => rfl)
  | promote d h => exact .promotes (s.promote_promotes d)
  | endHead d reason st h hst =>
    rcases s.endHead_cases d reason st with ⟨-, heq⟩ | ⟨c, u, hc, hu, heq⟩ <;> rw [heq]
    · exact .of_same (by simp) (by simp)
    · have hfreed := State.GivesBack.freeCapture hs (State.head_mem hc).1
      exact (hfreed.trans (.of_same (by rw [hu.memory]) (by rw [hu.captures]))).trans (.of_same (by simp) (by simp))
  | send d c k hc =>
    rw [State.sendDataWord_eq]
    split
    · refine .update hs (State.head_mem hc).1 (given := c.chain.take 1)
        (f := fun x => { x with bytesSent := min (2 * (k + 1)) x.bytesExpected, chain := x.chain.drop 1 }) rfl rfl ?_ rfl
      rw [Nat.add_comm, ← List.length_append, List.take_append_drop]
    · exact .of_same rfl (map_update_keeps fun _ => rfl)
  | lastTake d c hc hq => exact (State.GivesBack.freeCapture hs (State.head_mem hc).1).trans (.promotes (State.moveOn_promotes _ d))
  | opens slot r seq d hslot =>
    refine ⟨fun _ => 0, by simp [State.freeCount], fun x => ?_⟩
    rw [s.held_eq, State.held_eq, heldIn_append, heldIn_cons]
    by_cases h : x = r <;> simp [heldIn, openedCapture, h]

theorem Effects.givesBack {s t : State} (h : Effects True .opening s t) (hs : s.RecordsDistinct) : s.GivesBack t :=
  (h.keeps (P := fun t => t.RecordsDistinct ∧ s.GivesBack t)
    (fun h ht => ⟨h.keeps_recordsDistinct ht.1, ht.2.trans (h.givesBack ht.1)⟩) ⟨hs, .refl s⟩).2

theorem State.abandon_freePool (s : State) (c : Capture) (reason : LossReason) :
    (s.abandon c reason).memory.freePool = s.memory.freePool ++ c.chain := by
  unfold State.abandon
  dsimp only
  (repeat' split) <;> simp [State.updateCapture]

theorem State.GivesBack.abandon {s : State} (hs : s.RecordsDistinct) {c : Capture} (hc : c ∈ s.captures) (reason : LossReason) :
    s.GivesBack (s.abandon c reason) := by
  have hcaptures := s.abandon_captures c reason
  have hp : (s.abandon c reason).memory.freePool = s.memory.freePool ++ c.chain := s.abandon_freePool c reason
  split at hcaptures
  · exact .drop hs hc hp hcaptures
  · exact .update hs hc (f := fun x => { x with fill := .abandoned, chain := [], abandonReason := some reason }) rfl hp
      (Nat.zero_add _) hcaptures

/-! ### The cover of the unmet reserves (R69) -/

theorem State.unmetTotal_eq (s : State) (r : RegionId) :
    ((allRegions.filter (fun x => x ≠ r)).map s.unmet).sum + s.unmet r = s.unmetTotal := sum_allRegions_others s.unmet r

theorem State.unmetOthers_eq (s : State) (r : RegionId) :
    s.unmetOthers r = ((allRegions.filter (fun x => x ≠ r)).map s.unmet).sum := by
  have htotal := s.unmetTotal_eq r
  unfold State.unmetOthers
  omega

/-- The blocks given back cover what the reserves miss by them. -/
theorem State.GivesBack.covered {s t : State} (h : s.GivesBack t) (hd : ∀ r, (t.entry r).definition = (s.entry r).definition)
    (hs : s.unmetTotal ≤ s.freeCount) : t.unmetTotal ≤ t.freeCount := by
  obtain ⟨f, hfree, hheld⟩ := h
  have hunmet : ∀ r, t.unmet r ≤ s.unmet r + f r := fun r => by
    have hreserve : (t.entry r).reserve = (s.entry r).reserve := by rw [ActiveEntry.reserve, ActiveEntry.reserve, hd]
    have hr := hheld r
    unfold State.unmet
    rw [hreserve]
    omega
  have htotal : t.unmetTotal ≤ s.unmetTotal + (allRegions.map f).sum := by
    rw [State.unmetTotal, State.unmetTotal, ← sum_allRegions_add]
    exact sum_allRegions_le hunmet
  omega

/-- What a grant to the capture `c` does to the counts. -/
theorem State.held_grantBlock {s : State} (hs : s.RecordsDistinct) {c : Capture} (hc : c ∈ s.captures) {b : Nat} {pool : List Nat}
    (hp : s.memory.freePool = b :: pool) (r : RegionId) :
    (s.grantBlock c.slot).held r = s.held r + if r = c.region then 1 else 0 := by
  have hheld := hs.heldIn_update hc (f := fun x => { x with chain := x.chain ++ [b] }) rfl r
  rw [s.grantBlock_of_free c.slot b pool hp, State.held_eq, State.held_eq]
  change heldIn (s.captures.map _) r = _
  split at hheld <;> simp_all
  omega

theorem State.grantBlock_covered {s : State} (hs : s.RecordsDistinct) {c : Capture} (hc : c ∈ s.captures)
    (hcover : s.unmetTotal ≤ s.freeCount) (hgrant : s.grantable c.region = true) :
    (s.grantBlock c.slot).unmetTotal ≤ (s.grantBlock c.slot).freeCount := by
  obtain ⟨b, pool, hp⟩ := List.exists_cons_of_ne_nil (State.freePool_ne_nil_of_grantable hgrant)
  have hheld := State.held_grantBlock hs hc hp
  have hfree : s.freeCount = (s.grantBlock c.slot).freeCount + 1 := by
    rw [State.freeCount, hp, s.grantBlock_of_free c.slot b pool hp]
    rfl
  have hentry : ∀ r, (s.grantBlock c.slot).entry r = s.entry r := fun r => by rw [State.entry, State.grantBlock_table]; rfl
  have hothers : ((allRegions.filter (fun x => x ≠ c.region)).map (s.grantBlock c.slot).unmet).sum =
      ((allRegions.filter (fun x => x ≠ c.region)).map s.unmet).sum := by
    congr 1
    refine List.map_congr_left fun r hr => ?_
    rw [State.unmet, State.unmet, hentry, hheld, if_neg (of_decide_eq_true (List.mem_filter.mp hr).2), Nat.add_zero]
  have hown : (s.grantBlock c.slot).unmet c.region = s.unmet c.region - 1 := by
    rw [State.unmet, State.unmet, hentry, hheld, if_pos rfl]
    omega
  have hbefore := s.unmetTotal_eq c.region
  have hafter := (s.grantBlock c.slot).unmetTotal_eq c.region
  have hother := s.unmetOthers_eq c.region
  unfold State.grantable at hgrant
  simp only [Bool.and_eq_true, Bool.or_eq_true, decide_eq_true_eq] at hgrant
  obtain ⟨⟨-, -⟩, hbelow | hfew⟩ := hgrant
  · have hmissing : 1 ≤ s.unmet c.region := Nat.sub_pos_of_lt hbelow
    omega
  · by_cases hmissing : s.unmet c.region = 0 <;> omega

theorem exec_pinReset (s : State) : exec .pinReset s = .next (s.partReset .pin) := rfl

/-- Settles O16: a grant within the rule takes a block that no other reserve counts on; everything else gives blocks back. -/
theorem grantsAndFreesKeepReserveCover : Obligations.GrantsAndFreesKeepReserveCover := by
  unfold Obligations.GrantsAndFreesKeepReserveCover
  intro covered
  refine ⟨fun s r hs hbelow => ?_, fun s c hs hc hcover => ⟨State.grantBlock_covered hs hc hcover, ?_, ?_, fun reason => ?_⟩,
    fun s t d hs hcover hst => ?_, fun s t hst => ?_, fun s cause => ?_⟩
  · have hmissing : 1 ≤ s.unmet r := Nat.sub_pos_of_lt hbelow
    exact (hmissing.trans (s.unmet_le_total r)).trans hs
  · have hback := State.GivesBack.freeCapture hs hc
    exact hback.covered (fun _ => rfl) hcover
  · have hback : s.GivesBack (s.discard c) := .drop hs hc rfl rfl
    exact hback.covered (State.Raises.discard s c).definition hcover
  · exact (State.GivesBack.abandon hs hc reason).covered (State.Raises.abandon s c reason).definition hcover
  · have hrun : Effects True .opening s t := .take hst
    have hraises := State.Raises.execTake hst
    exact (hrun.givesBack hs).covered hraises.definition hcover
  · obtain ⟨-, -, -, hfree, -, htotal, -⟩ := s.partReset_frees .pin
    rw [exec_pinReset] at hst
    rw [← Host.Outcome.next.inj hst]
    exact ⟨hfree, htotal⟩
  · obtain ⟨-, -, -, hfree, -, htotal, -⟩ := s.partReset_frees cause
    exact ⟨hfree, htotal⟩

end Sys2Proof.Machine
end

section
/-! SUPPORT. Block requests and the free of a capture (O15, O19). -/

namespace Sys2Proof.Machine

/-! ### O15 -/

/-- The allocation rule, with the reserves of the other regions summed (R73). -/
theorem State.grantable_iff (s : State) (r : RegionId) : s.grantable r = true ↔
    1 ≤ s.freeCount ∧ s.held r < (s.entry r).limit ∧ (s.held r < (s.entry r).reserve ∨
      ((allRegions.filter (fun x => x ≠ r)).map (fun x => (s.entry x).reserve - s.held x)).sum < s.freeCount) := by
  unfold State.grantable
  rw [s.unmetOthers_eq]
  simp only [Bool.and_eq_true, Bool.or_eq_true, decide_eq_true_eq, and_assoc]
  rfl

/-- A request that the rule grants is granted at once, whatever candidates there are. -/
theorem State.requestBlock_of_grantable {s : State} {r : RegionId} (h : s.grantable r = true) (slot : Nat) (cs : List Capture) :
    State.requestBlock r slot cs s = (s.grantBlock slot, true) := by
  cases cs <;> rw [State.requestBlock, if_pos h]

theorem State.discardable_of_some {s : State} {r : RegionId} {d : RegionDef} (h : (s.entry r).definition = some d) :
    s.discardable r = if d.policy = .keepNew then s.candidates r else [] := by
  rw [State.discardable, h]

/-- A request that ends in refusal abandons the capture. -/
theorem State.writePixel_refused {s : State} {r : RegionId} {c : Capture} (hc : s.openCapture r = some c)
    (hboundary : c.bytesWritten % 512 = 0) (hrefused : (State.requestBlock r c.slot (s.discardable r) s).2 = false) (v : Half) :
    s.writePixel r v = (State.requestBlock r c.slot (s.discardable r) s).1.abandon c .noBlocks := by
  unfold State.writePixel
  rw [hc]
  dsimp only
  rw [if_pos hboundary, hrefused]
  rfl

/-- Settles O15: the rule read off the counts, and the loop of the discards that `requestBlock_spec` describes. -/
theorem blockRequestGrantedOrRefused : Obligations.BlockRequestGrantedOrRefused := by
  refine ⟨fun s r c hs hc hregion => ?_, fun s r slot cs => s.requestBlock_spec r slot cs, fun s r d hd => ⟨fun hold => ?_, fun hnew => ?_⟩,
    fun s r v c hc hboundary hrefused => State.writePixel_refused hc hboundary hrefused v⟩
  · intro others granted
    have hrule : s.grantable r = true ↔ granted := s.grantable_iff r
    refine ⟨fun hgranted cs => ?_, fun hrefused => ?_⟩
    · have hgrant := hrule.mpr hgranted
      obtain ⟨b, pool, hp⟩ := List.exists_cons_of_ne_nil (State.freePool_ne_nil_of_grantable hgrant)
      have hheld := State.held_grantBlock hs hc hp r
      have hblock := s.grantBlock_of_free c.slot b pool hp
      rw [if_pos hregion.symm, hblock] at hheld
      refine ⟨b, pool, hp, ?_, hheld⟩
      rw [State.requestBlock_of_grantable hgrant, hblock]
    · rw [State.requestBlock, if_neg (fun h => hrefused (hrule.mp h))]
  · rw [State.discardable_of_some hd, if_neg (by simp [hold])]
  · rw [State.discardable_of_some hd, if_pos hnew, State.candidates_eq]
    rfl

/-! ### O19 -/

/-- The records in use and those that are free number 48. -/
theorem State.RecordsDistinct.length_freeRecords {s : State} (hs : s.RecordsDistinct) : s.freeRecords.length + s.captures.length = 48 := by
  obtain ⟨hnodup, hlt⟩ := hs
  have hslots : ((List.range 48).filter (fun n => n ∈ s.captures.map Capture.slot)).Perm (s.captures.map Capture.slot) := by
    refine (List.perm_ext_iff_of_nodup (List.nodup_range.filter _) hnodup).mpr fun n => ?_
    rw [List.mem_filter, List.mem_range, decide_eq_true_eq]
    refine ⟨And.right, fun hn => ⟨?_, hn⟩⟩
    obtain ⟨c, hc, rfl⟩ := List.mem_map.mp hn
    exact hlt c hc
  have hfree : s.freeRecords = (List.range 48).filter (fun n => !decide (n ∈ s.captures.map Capture.slot)) := by
    refine List.filter_congr fun n _ => congrArg not ?_
    rw [List.any_eq, decide_eq_decide, List.mem_map]
    simp
  have hsum := List.length_eq_length_filter_add (l := List.range 48) (fun n => decide (n ∈ s.captures.map Capture.slot))
  rw [hslots.length_eq, List.length_map, List.length_range, ← hfree] at hsum
  omega

theorem State.RecordsDistinct.freeCapture {s : State} (hs : s.RecordsDistinct) (c : Capture) : (s.freeCapture c).RecordsDistinct :=
  ⟨hs.1.sublist (List.filter_sublist.map _), fun x hx => hs.2 x (List.mem_filter.mp hx).1⟩

/-- A free of the capture `c` takes nothing from the list of another region. -/
theorem State.RecordsDistinct.captureList_freeCapture {s : State} (hs : s.RecordsDistinct) {c : Capture} (hc : c ∈ s.captures) {x : RegionId}
    (hx : x ≠ c.region) : (s.freeCapture c).captureList x = s.captureList x := by
  obtain ⟨before, after, hsplit, -, -, hdrop⟩ := hs.split hc
  have hcaptures : (s.freeCapture c).captures = before ++ after := hdrop
  rw [State.captureList, State.captureList, hcaptures, hsplit]
  simp [Ne.symm hx]

/-- Settles O19: the counts before and after the one record has left. -/
theorem freedCaptureReturnsBlocksAndRecord : Obligations.FreedCaptureReturnsBlocksAndRecord := by
  intro s c hs
  have hrecords := hs.length_freeRecords
  refine ⟨hrecords, fun hc => ?_⟩
  intro t e
  have hheld : s.held c.region = t.held c.region + c.chain.length := by
    have h := hs.heldIn_drop hc c.region
    rw [if_pos rfl] at h
    exact h
  have hleft : t.captures.length + 1 = s.captures.length := by
    obtain ⟨before, after, hsplit, -, -, hdrop⟩ := hs.split hc
    have hcaptures : t.captures = before ++ after := hdrop
    rw [hcaptures, hsplit, List.length_append, List.length_append, List.length_cons]
    omega
  have hrecords' : t.freeRecords.length + t.captures.length = 48 := (hs.freeCapture c).length_freeRecords
  refine ⟨rfl, List.length_append, hheld.symm, fun x hx => ?_, by omega, ?_, rfl⟩
  · have hlist := hs.captureList_freeCapture hc hx
    exact ⟨by rw [State.held, State.held, hlist], hlist⟩
  · refine State.mem_freeRecords.mpr ⟨hs.2 c hc, fun x hx => ?_⟩
    exact of_decide_eq_true (List.mem_filter.mp hx).2

end Sys2Proof.Machine
end

section
/-! SUPPORT. The burst of a drain, the completion at a row end, and the abandonment (O17, O18, O45). -/

namespace Sys2Proof.Machine

/-! ### The burst (R110, R111) -/

theorem Drain.hasHead_iff {x : Drain} : x.hasHead = true ↔ x.state = .streaming ∨ x.state = .stopping := by
  simp [Drain.hasHead]

theorem Capture.burstReady_iff {c : Capture} {p : Position} {grain : Nat} :
    c.burstReady p grain = true ↔ grain ≤ c.available p ∨ (c.fill ≠ .filling ∧ 1 ≤ c.available p) := by
  simp [Capture.burstReady]

section
variable {s : State} {d : DrainId} {c : Capture} {p : Position} (hc : s.head d = some c) (hp : (s.drain d).position = some p)
  (hhead : (s.drain d).hasHead = true)
include hc hp hhead

theorem State.evaluateBurst_ready (hready : c.burstReady p (s.drain d).grain = true) : s.evaluateBurst d =
    s.setDrain d { s.drain d with
      rq := .high, burst := min (s.drain d).grain (c.available p)
      timer := if (s.drain d).rq = .high then (s.drain d).timer else if (s.drain d).timeout = 0 then .stopped else .running } := by
  unfold State.evaluateBurst
  simp only [hc, hp, hhead, hready, Bool.and_self, if_true]

omit hhead in
theorem State.evaluateBurst_low (hlow : c.burstReady p (s.drain d).grain = false) : s.evaluateBurst d =
    s.setDrain d { s.drain d with rq := .low, burst := 0, timer := .stopped } := by
  unfold State.evaluateBurst
  simp only [hc, hp, hlow, Bool.and_false, Bool.false_eq_true, if_false]

end

theorem State.promote_of_queue {s : State} {d : DrainId} {slot : Nat} {rest : List Nat} (h : (s.drain d).queue = slot :: rest) :
    s.promote d = (({ s with captures := s.captures.map (fun x =>
        if x.slot = slot then { x with delivery := .active } else x) } : State).setDrain d
      { s.drain d with state := .streaming, position := some (.header 0), wordsTaken := 0 }).evaluateBurst d := by
  unfold State.promote
  rw [h]
  rfl

/-! ### O45 -/

/-- Settles O45: the burst condition is a comparison of the available words; a write tells the drain by the bytes before it. -/
theorem burstAndPromotionOfDrainHead : Obligations.BurstAndPromotionOfDrainHead := by
  refine ⟨⟨fun s d c p hc hp hstate => ?_, fun s d slot rest h => State.promote_of_queue h⟩, fun s c => ⟨fun hlink => ?_, fun d hroute => ?_⟩⟩
  · intro words available holds
    have hhead := Drain.hasHead_iff.mpr hstate
    have havailable : c.available p = available := by
      simp only [available, words]
      unfold Capture.available
      cases c.fill <;> cases p <;> rfl
    have hholds : c.burstReady p (s.drain d).grain = true ↔ holds := by rw [Capture.burstReady_iff, havailable]
    refine ⟨fun h => ?_, fun h => State.evaluateBurst_low hc hp (eq_false_of_ne_true (fun h' => h (hholds.mp h')))⟩
    rw [State.evaluateBurst_ready hc hp hhead (hholds.mpr h), havailable]
  · rw [State.tellDrainOfWrite, hlink]
  · intro joined
    have htold : s.tellDrainOfWrite c = if c.bytesWritten = 0 then s.joinQueue d c.slot
        else if c.delivery = .active && c.bytesWritten / 2 < (c.bytesWritten + c.bpp) / 2 then s.evaluateIfLow d else s := by
      rw [State.tellDrainOfWrite, hroute]
    refine ⟨fun hfirst hidle => ?_, fun hfirst hidle => ?_, fun hlater hactive hlow hword => ?_, fun hlater hno => ?_⟩
    · rw [htold, if_pos hfirst, State.joinQueue, if_pos hidle]
    · rw [htold, if_pos hfirst, State.joinQueue, if_neg hidle]
    · rw [htold, if_neg hlater, if_pos (by simp [hactive, hword]), State.evaluateIfLow, if_pos hlow]
    · rw [htold, if_neg hlater]
      split
      · rename_i h
        rw [Bool.and_eq_true, decide_eq_true_eq, decide_eq_true_eq] at h
        obtain ⟨hactive, hword⟩ := h
        have hhigh : (s.drain d).rq = .high := by
          rcases hno with h | h | h
          · exact absurd hactive h
          · exact h
          · omega
        rw [State.evaluateIfLow, hhigh]
        rfl
      · rfl

/-! ### The completion at a row end (R6, R55, R56) -/

theorem ActiveEntry.completedOne_continuous {e : ActiveEntry} {d : RegionDef} (hd : e.definition = some d) (hm : d.mode = .continuous) :
    e.completedOne = { e with completed := satInc e.completed } := by
  unfold ActiveEntry.completedOne
  split
  · rename_i h
    rw [hd] at h
    cases h
    cases hm
  · rfl

theorem ActiveEntry.completedOne_count {e : ActiveEntry} {d : RegionDef} {n : Half} (hd : e.definition = some d) (hm : d.mode = .count n) :
    e.completedOne = { e with completed := e.completed + 1, remaining := e.remaining - 1 } := by
  unfold ActiveEntry.completedOne
  split
  · rfl
  · rename_i h
    cases d
    cases hm
    exact absurd hd (h _ _ _ _ _ _ _ _ _ _ _ _ _ _)

theorem ActiveEntry.reachedCount_continuous {e : ActiveEntry} {d : RegionDef} (hd : e.definition = some d) (hm : d.mode = .continuous) :
    e.reachedCount = false := by
  unfold ActiveEntry.reachedCount
  split
  · rename_i h
    rw [hd] at h
    cases h
    cases hm
  · rfl

theorem ActiveEntry.reachedCount_count {e : ActiveEntry} {d : RegionDef} {n : Half} (hd : e.definition = some d) (hm : d.mode = .count n) :
    e.reachedCount = true ↔ e.run = .armed ∧ e.completed = n := by
  unfold ActiveEntry.reachedCount
  split
  · rename_i h
    rw [hd] at h
    cases h
    cases hm
    simp
  · rename_i h
    cases d
    cases hm
    exact absurd hd (h _ _ _ _ _ _ _ _ _ _ _ _ _ _)

/-- The announcement of a completion leaves the table. -/
theorem State.announceCompletion_entry (s : State) (c : Capture) (r : RegionId) : (s.announceCompletion c).entry r = s.entry r := by
  have htable : (s.announceCompletion c).table = s.table := by
    unfold State.announceCompletion
    (repeat' split) <;> simp
  rw [State.entry, htable, State.entry]

theorem State.rowEndOf_of_none {s : State} {r : RegionId} (h : s.openCapture r = none) (row : Nat) : State.rowEndOf row s r = s := by
  rw [State.rowEndOf, h]

theorem State.rowEndOf_of_some {s : State} {r : RegionId} {c : Capture} (h : s.openCapture r = some c) (row : Nat) :
    State.rowEndOf row s r = if s.rowCompletes c row then s.complete c else s := by
  rw [State.rowEndOf, h]

/-- Settles O17: the last row completes the capture; the count of a COUNT region is judged on the entry that the completion has
moved. -/
theorem lastRowEndCompletesCapture : Obligations.LastRowEndCompletesCapture := by
  refine ⟨fun s r row h => State.rowEndOf_of_none h row, fun s r c d row hc hd hrow => ?_, fun s r c d row hc hd hrow hbytes => ?_⟩
  · obtain ⟨-, hregion, -⟩ := State.openCapture_eq_some hc
    rw [State.rowEndOf_of_some hc, State.rowCompletes, hregion, hd]
    have hno : row ≠ d.lastRow c.outH := hrow
    simp [hno]
  · intro e filled announced
    obtain ⟨-, hregion, -⟩ := State.openCapture_eq_some hc
    have hannounced : ∀ u : State, u.announceCompletion c = announced u := by
      intro u
      simp only [announced]
      unfold State.announceCompletion State.evaluateIfLow
      rw [hregion]
      cases c.route with
      | link => rfl
      | drain x => by_cases ha : c.delivery = .active <;> simp [ha]
    have hends : State.rowEndOf row s r = (announced (filled.setEntry r e.completedOne)).finishCount r := by
      have hlast : s.rowCompletes c row = true := by
        rw [State.rowCompletes, hregion, hd]
        simp [hrow, hbytes, RegionDef.lastRow]
      rw [State.rowEndOf_of_some hc, if_pos hlast, ← hannounced, State.complete, hregion]
      rfl
    have hentry : (announced (filled.setEntry r e.completedOne)).entry r = e.completedOne := by
      rw [← hannounced, State.announceCompletion_entry, State.setEntry_entry_same]
    refine ⟨fun hm => ?_, fun n hm => ?_⟩
    · rw [ActiveEntry.completedOne_continuous hd hm] at hends hentry
      have hcount : ({ e with completed := satInc e.completed } : ActiveEntry).reachedCount = false :=
        ActiveEntry.reachedCount_continuous (e := { e with completed := satInc e.completed }) hd hm
      rw [hends, State.finishCount, hentry, hcount]
      rfl
    · intro counted
      have hcounted : e.completedOne = counted := ActiveEntry.completedOne_count hd hm
      rw [hcounted] at hends hentry
      have hreached : counted.reachedCount = true ↔ e.run = .armed ∧ e.completed + 1 = n :=
        ActiveEntry.reachedCount_count (e := counted) hd hm
      rw [hends, State.finishCount, hentry]
      refine ⟨fun hno => if_neg fun h => ?_, fun harmed hn => if_pos (hreached.mpr ⟨harmed, hn⟩)⟩
      obtain ⟨harmed, hn⟩ := hreached.mp h
      rcases hno with h | h
      · exact h harmed
      · exact h hn

end Sys2Proof.Machine
end

section
/-! SUPPORT. The abandonment (O18). -/

namespace Sys2Proof.Machine

theorem State.abandon_memory (s : State) (c : Capture) (reason : LossReason) :
    (s.abandon c reason).memory = { s.memory with freePool := s.memory.freePool ++ c.chain } := by
  unfold State.abandon
  dsimp only
  (repeat' split) <;> simp [State.updateCapture, State.returnBlocks, State.freeCapture]

theorem State.abandon_table (s : State) (c : Capture) (reason : LossReason) :
    (s.abandon c reason).table =
      { s.table with active := s.table.active.set c.region { s.entry c.region with lost := satInc (s.entry c.region).lost } } := by
  unfold State.abandon
  dsimp only
  (repeat' split) <;> simp <;> rfl

theorem State.abandon_link (s : State) (c : Capture) (reason : LossReason) :
    (s.abandon c reason).link = s.link.raise (.lost c.region 1 reason) := by
  unfold State.abandon
  dsimp only
  (repeat' split) <;> simp <;> rfl

/-- The captures with the capture `c` ABANDONED. -/
def State.markAbandoned (s : State) (c : Capture) (reason : LossReason) : List Capture :=
  s.captures.map (fun x => if x.slot = c.slot then { x with fill := .abandoned, chain := [], abandonReason := some reason } else x)

/-- What the cut of the burst leaves of the drain whose head is the capture `c`. -/
theorem State.abandon_drain {s : State} {c : Capture} {d : DrainId} (hs : s.RecordsDistinct) (reason : LossReason)
    (hactive : c.delivery = .active) (hroute : c.route = .drain d) (hhead : s.head d = some c) (hhas : (s.drain d).hasHead = true) :
    (s.abandon c reason).drain d = { s.drain d with
      position := some (.trailer 0), rq := .high, burst := min (s.drain d).grain 2
      timer := if (s.drain d).rq = .high then (s.drain d).timer else if (s.drain d).timeout = 0 then .stopped else .running } := by
  have hcaptures : (s.abandon c reason).captures = s.markAbandoned c reason := by
    rw [s.abandon_captures, if_neg (by simp [hactive])]
    rfl
  have hmarked : ∃ u : State, s.abandon c reason = u.cutToTrailer d ∧ u.drain d = s.drain d ∧ u.captures = s.markAbandoned c reason := by
    unfold State.abandon at hcaptures ⊢
    dsimp only at hcaptures ⊢
    rw [hactive, hroute] at hcaptures ⊢
    exact ⟨_, rfl, by cases d <;> rfl, (State.cutToTrailer_captures _ d).symm.trans hcaptures⟩
  obtain ⟨u, heq, hdrain, hcaps⟩ := hmarked
  obtain ⟨hmem, hqueue⟩ := hs.head_eq_some_iff.mp hhead
  have hu : u.RecordsDistinct := by
    have hslots : u.captures.map Capture.slot = s.captures.map Capture.slot := by
      rw [hcaps, State.markAbandoned]
      exact map_update_keeps fun _ => rfl
    refine ⟨hslots ▸ hs.1, fun x hx => ?_⟩
    have hslot := List.mem_map_of_mem (f := Capture.slot) hx
    rw [hslots] at hslot
    obtain ⟨y, hy, heq⟩ := List.mem_map.mp hslot
    exact heq ▸ hs.2 y hy
  have hmarked : { c with fill := .abandoned, chain := [], abandonReason := some reason } ∈ u.captures := by
    rw [hcaps, State.markAbandoned]
    exact List.mem_map.mpr ⟨c, hmem, if_pos rfl⟩
  have hcut : u.cutToTrailer d = (u.setDrain d { u.drain d with burst := 0, position := some (.trailer 0) }).evaluateBurst d := by
    rw [State.cutToTrailer, if_pos (by rw [hdrain]; exact hhas)]
  have hsame : (u.setDrain d { u.drain d with burst := 0, position := some (.trailer 0) }).captures = u.captures := State.setDrain_captures _ _ _
  have hset := u.drain_setDrain d { u.drain d with burst := 0, position := some (.trailer 0) }
  rw [heq, hcut]
  generalize u.setDrain d { u.drain d with burst := 0, position := some (.trailer 0) } = w at hsame hset ⊢
  have hw : w.RecordsDistinct := by rw [State.RecordsDistinct, hsame]; exact hu
  have hwhead : w.head d = some { c with fill := .abandoned, chain := [], abandonReason := some reason } := by
    refine hw.head_eq_some_iff.mpr ⟨by rw [hsame]; exact hmarked, ?_⟩
    rw [hset, hdrain]
    exact hqueue
  have hburst := State.evaluateBurst_ready hwhead (by rw [hset]) (by rw [hset, hdrain]; exact hhas) (Capture.burstReady_iff.mpr (.inr ⟨by simp, one_le_two⟩))
  rw [hburst, State.drain_setDrain, hset, hdrain]
  rfl

/-- Settles O18: the parts of the state that an abandonment writes, and the order of the regions. -/
theorem abandonmentReturnsBlocks : Obligations.AbandonmentReturnsBlocks := by
  refine ⟨fun s c reason hs hc => ?_, fun s reason => ⟨fun r => ⟨fun hnone => ?_, fun c hopen => ?_⟩, rfl⟩⟩
  · intro e t
    refine ⟨s.abandon_framer c reason, s.abandon_memory c reason, s.abandon_table c reason, s.abandon_link c reason, fun hwaiting => ?_,
      fun d hactive hroute hhead hstate => ⟨?_, ?_⟩⟩
    · have hsame := s.abandon_waiting reason hwaiting
      exact ⟨hsame.captures, fun d => (hsame.drain d).trans (s.freeCapture_drain c d)⟩
    · have hcaptures := s.abandon_captures c reason
      rw [if_neg (by simp [hactive])] at hcaptures
      exact hcaptures
    · exact State.abandon_drain hs reason hactive hroute hhead (Drain.hasHead_iff.mpr hstate)
  · refine ⟨by rw [State.abandonOpen, hnone], fun c hc hregion hfill => ?_⟩
    have hmem : c.progress ∈ s.filling := State.mem_filling.mpr ⟨c, hc, hfill, rfl⟩
    exact State.openCapture_eq_none hnone _ hmem hregion
  · obtain ⟨hmem, hregion, hfill⟩ := State.openCapture_eq_some hopen
    exact ⟨by rw [State.abandonOpen, hopen], hmem, hregion, hfill⟩

end Sys2Proof.Machine
end

section
/-! SUPPORT. Raises and the receiver (O21, O25, O26, O27). -/

namespace Sys2Proof.Machine

/-! ### Raises (O21) -/

/-- A 1-byte count stays at 255. -/
theorem satInc_byte (n : Byte) : satInc n = if n = 255 then 255 else n + 1 := by
  by_cases hmax : n = 255
  · subst hmax
    rfl
  · rw [if_neg hmax]
    exact if_neg hmax

theorem Link.raise_dropped {l : Link} {n : Notice} (h : l.resetPending = true ∨ l.isMasked n = true) : l.raise n = l := by
  unfold Link.raise
  rcases h with h | h
  · rw [if_pos h]
  · rw [if_pos h, ite_self]

section
variable {l : Link} {n : Notice} (hclear : l.resetPending = false) (hopen : l.isMasked n = false)
include hclear hopen

theorem Link.raise_new (hnew : ∀ e ∈ l.notices, sameKey e n = false) :
    l.raise n = ({ l with notices := l.notices ++ [n] } : Link).arbitrate := by
  have hnone : l.notices.any (fun e => sameKey e n) = false := by simpa using hnew
  unfold Link.raise
  simp only [hclear, hopen, hnone, Bool.false_eq_true, if_false]

/-- A raise of the kind and key of a waiting entry updates that entry in its place. -/
theorem Link.raise_update {before after : List Notice} {e : Notice} (hnotices : l.notices = before ++ e :: after)
    (hothers : ∀ x ∈ before ++ after, sameKey x n = false) (hkey : sameKey e n = true) :
    l.raise n = { l with notices := before ++ e.updatedBy n :: after } := by
  have hsome : l.notices.any (fun e => sameKey e n) = true := by
    rw [hnotices, List.any_append, List.any_cons, hkey, Bool.true_or, Bool.or_true]
  have hsame : ∀ xs : List Notice, (∀ x ∈ xs, sameKey x n = false) → xs.map (fun x => if sameKey x n then x.updatedBy n else x) = xs := by
    intro xs hxs
    refine (List.map_congr_left fun x hx => ?_).trans xs.map_id
    rw [hxs x hx]
    rfl
  unfold Link.raise
  simp only [hclear, hopen, hsome, Bool.false_eq_true, if_false, if_true]
  rw [hnotices, List.map_append, List.map_cons, hkey, hsame before fun x hx => hothers x (List.mem_append_left _ hx),
    hsame after fun x hx => hothers x (List.mem_append_right _ hx)]
  rfl

end

/-- Settles O21: the entry of the kind and key is updated, which for most kinds changes nothing. -/
theorem raiseUpdatesOrCreatesEntry : Obligations.RaiseUpdatesOrCreatesEntry := by
  refine ⟨fun l n h => Link.raise_dropped h, fun l n hclear hopen => ⟨Link.raise_new hclear hopen, fun before e after hnotices hothers => ?_⟩,
    fun l c => rfl⟩
  intro updated
  have hraise : sameKey e n = true → l.raise n = updated (e.updatedBy n) := Link.raise_update hclear hopen hnotices hothers
  have hkept : updated e = l := by simp only [updated]; rw [← hnotices]
  refine ⟨?_, ?_, ?_, ?_, ?_, ?_, ?_⟩
  · rintro r rfl rfl; rw [hraise (decide_eq_true rfl)]; exact hkept
  · rintro r count last reason rfl rfl; rw [hraise (decide_eq_true rfl), ← satInc_byte]; rfl
  · rintro r rfl rfl; rw [hraise (decide_eq_true rfl)]; exact hkept
  · rintro f f' rfl rfl; exact hraise rfl
  · rintro v f v' f' rfl rfl; exact hraise rfl
  · rintro d rfl rfl; rw [hraise (decide_eq_true rfl)]; exact hkept
  · rintro count rfl rfl; rw [hraise rfl, ← satInc_byte]; rfl

/-! ### The receiver (O25, O26) -/

theorem State.takesBytes_iff {s : State} : s.takesBytes = true ↔ s.readiness = .ready ∧ s.link.rxd = .high := by
  simp [State.takesBytes]

theorem State.exec_frameByteTaken {s : State} (h : s.takesBytes = true) (b : Byte) :
    exec (.frameByteTaken b) s = .next (s.setLink (s.link.takeByte b)) := if_pos h

theorem State.exec_frameByteTaken_ignored {s : State} (h : s.takesBytes = false) (b : Byte) : exec (.frameByteTaken b) s = .next s :=
  if_neg (by simp [h])

theorem State.exec_requestFrame {s : State} (h : s.takesBytes = true) {len low : Byte} {taken : List Byte}
    (hr : s.link.receiver = .crc len taken (some low)) (high : Byte) :
    exec (.requestFrame high) s = .next (s.setLink (s.link.judge len taken (high ++ low))) := by
  change execRequestFrame high s = _
  unfold execRequestFrame
  simp only [hr, h, if_true]

theorem Link.judge_receiver (l : Link) (len : Byte) (body : List Byte) (received : Half) : (l.judge len body received).receiver = .hunt := by
  unfold Link.judge
  dsimp only
  (repeat' split) <;> simp [Link.discardPartial]

theorem lenAccepted_iff {b : Byte} : lenAccepted b = true ↔ 2 ≤ b.toNat ∧ b.toNat ≤ 250 := by
  simp [lenAccepted]

/-- Settles O25: a byte that is taken goes by the receiver's state. -/
theorem receiverFollowsByteTable : Obligations.ReceiverFollowsByteTable := by
  intro s b hready hrxd becomes discarded
  have htakes : s.takesBytes = true := State.takesBytes_iff.mpr ⟨hready, hrxd⟩
  have hexec := State.exec_frameByteTaken htakes b
  refine ⟨fun hr => ⟨fun hb => ?_, fun hb => ?_⟩, fun hr => ⟨fun hlow hhigh => ?_, fun hout => ?_⟩, fun len taken hr => ⟨fun hmore => ?_,
    fun hlast => ?_⟩, fun len taken hr => ?_, fun len taken low hr => ?_⟩
  · refine ⟨?_, by simp [Link.gapTimerRunning, hr], rfl⟩
    rw [hexec, Link.takeByte, hr]
    exact congrArg _ (congrArg _ (if_pos hb))
  · rw [hexec, Link.takeByte, hr]
    exact congrArg _ (congrArg _ (if_neg hb))
  · rw [hexec, Link.takeByte, hr]
    exact congrArg _ (congrArg _ (if_pos (lenAccepted_iff.mpr ⟨hlow, hhigh⟩)))
  · have hrefused : lenAccepted b = false := eq_false_of_ne_true fun h => by
      have hin := lenAccepted_iff.mp h
      omega
    refine ⟨?_, ?_⟩
    · rw [hexec, Link.takeByte, hr]
      exact congrArg _ (congrArg _ (if_neg (by simp [hrefused])))
    · change execLenRefused b s = _
      unfold execLenRefused
      simp only [htakes, hr, hrefused, decide_true, Bool.not_false, Bool.and_self, if_true]
      rfl
  · rw [hexec, Link.takeByte, hr]
    exact congrArg _ (congrArg _ (if_pos hmore))
  · rw [hexec, Link.takeByte, hr]
    exact congrArg _ (congrArg _ (if_neg (by omega)))
  · rw [hexec, Link.takeByte, hr]
    rfl
  · have htaken : s.link.takeByte b = s.link.judge len taken (b ++ low) := by rw [Link.takeByte, hr]
    rw [State.exec_requestFrame htakes hr, hexec, htaken]
    exact ⟨rfl, _, rfl, Link.judge_receiver _ _ _ _⟩

theorem isReplyOrNoticeKind_iff {kind : Byte} :
    isReplyOrNoticeKind kind = true ↔ (0x40 ≤ kind.toNat ∧ kind.toNat ≤ 0x47) ∨ 0x80 ≤ kind.toNat := by
  simp [isReplyOrNoticeKind]

section
variable {l : Link} {len : Byte} {body : List Byte} {received : Half}

theorem Link.judge_bad (h : crc (len :: body) ≠ received ∨ isReplyOrNoticeKind (byteAt body 0) = true ∨ byteAt body 1 = 0) :
    l.judge len body received = l.discardPartial := by
  unfold Link.judge
  dsimp only
  by_cases hcrc : crc (len :: body) = received
  · rw [if_neg (not_not_intro hcrc)]
    rcases h.resolve_left (not_not_intro hcrc) with hkind | htag
    · rw [if_pos hkind]
    · rw [if_pos htag, ite_self]
  · rw [if_pos hcrc]

/-- A good request frame is dropped while a reset is pending, and else joins the queue or is an overrun. -/
theorem Link.judge_good (hcrc : crc (len :: body) = received) (hkind : isReplyOrNoticeKind (byteAt body 0) = false)
    (htag : byteAt body 1 ≠ 0) : l.judge len body received =
      if l.resetPending then { l with receiver := .hunt }
      else if 4 ≤ l.requests.length then ({ l with receiver := .hunt, overruns := satInc l.overruns } : Link).raise (.overrun 1)
      else { l with receiver := .hunt, requests := l.requests ++
        [{ kind := byteAt body 0, tag := byteAt body 1, payload := body.drop 2 }] } := by
  unfold Link.judge
  dsimp only
  rw [if_neg (not_not_intro hcrc), hkind, if_neg Bool.false_ne_true, if_neg htag]

end

/-- Settles O26: the judging takes its cases in order. -/
theorem frameIsJudgedInOrder : Obligations.FrameIsJudgedInOrder := by
  refine ⟨fun s high low len kind tag payload hready hrxd hr => ?_, by decide +kernel⟩
  intro received covered notRequest discarded
  have hexec := State.exec_requestFrame (State.takesBytes_iff.mpr ⟨hready, hrxd⟩) hr high
  have hkind : isReplyOrNoticeKind kind = true ↔ notRequest := isReplyOrNoticeKind_iff
  have becomes : ∀ {l : Link}, s.link.judge len (kind :: tag :: payload) received = l →
      exec (.requestFrame high) s = .next (s.setLink l) := fun h => hexec.trans (congrArg (fun l => Host.Outcome.next (s.setLink l)) h)
  have hgood := fun (hcrc : crc covered = received) (hno : ¬notRequest) (htag : tag ≠ 0) =>
    Link.judge_good (l := s.link) (body := kind :: tag :: payload) hcrc (eq_false_of_ne_true fun h => hno (hkind.mp h)) htag
  refine ⟨fun hbad => ?_, fun hcrc hno htag hpending => ?_, fun hcrc hno htag hclear hfull => ?_, fun hcrc hno htag hclear hroom => ?_⟩
  · exact becomes (Link.judge_bad (body := kind :: tag :: payload) (hbad.imp id (Or.imp hkind.mpr id)))
  · exact becomes ((hgood hcrc hno htag).trans (if_pos hpending))
  · exact becomes ((hgood hcrc hno htag).trans ((if_neg (by simp [hclear])).trans (if_pos hfull)))
  · exact becomes ((hgood hcrc hno htag).trans ((if_neg (by simp [hclear])).trans (if_neg (Nat.not_le.mpr hroom))))

/-! ### Events of the line (O27) -/

/-- Settles O27: each event by the readiness, the judged level and the receiver's state. -/
theorem lineEventsDiscardAndBreak : Obligations.LineEventsDiscardAndBreak := by
  refine ⟨fun s => ?_, fun s hready => ⟨fun hrxd hclear => ?_, fun hrxd hpending => ?_, fun hrxd => ?_⟩⟩
  · intro discarded
    refine ⟨fun hready hrxd => ?_, fun hr => ?_, fun hr => ?_, fun hready => if_pos hready, fun hno b => ?_⟩
    · have htakes : s.takesBytes = true := State.takesBytes_iff.mpr ⟨hready, hrxd⟩
      have hexec : exec .framingError s = execFramingError s := rfl
      refine ⟨fun hr => ?_, fun hr => ?_⟩
      · rw [hexec, execFramingError, if_pos htakes]
        split
        · rename_i h; exact absurd h hr
        all_goals rfl
      · rw [hexec, execFramingError, if_pos htakes, hr]
        rfl
    · exact if_pos (by simp [Link.gapTimerRunning, hr])
    · exact if_neg (by simp [Link.gapTimerRunning, hr])
    · refine State.exec_frameByteTaken_ignored (eq_false_of_ne_true fun h => ?_) b
      obtain ⟨hready, hrxd⟩ := State.takesBytes_iff.mp h
      exact hno.elim (fun h => h hrxd) (fun h => h hready)
  · have hexec : exec .linkBreak s = .next { s with link := s.link.afterBreak, captures := s.captures.map Capture.returned } := by
      change execLinkBreak s = _
      rw [execLinkBreak, if_pos (by simp [hready, hrxd]), hclear]
      rfl
    have hreturned : s.captures.map Capture.returned = s.captures.map (fun c =>
        if c.route = .link ∧ c.delivery = .active then { c with delivery := .waiting } else c) :=
      List.map_congr_left fun c _ => by simp [Capture.returned]
    rw [hexec, hreturned, Link.afterBreak, ← hclear]
  · change execLinkBreak s = _
    rw [execLinkBreak, if_pos (by simp [hready, hrxd]), hpending]
    rfl
  · change execLinkBreak s = _
    rw [execLinkBreak, if_neg (by simp [hrxd])]

end Sys2Proof.Machine
end

section
/-! SUPPORT. Frames on TXD and the execution of requests (O23, O28, O29, O30). -/

namespace Sys2Proof.Machine

/-! ### Layouts -/

/-- A 2-byte number laid out by its two bytes. -/
theorem put2_toNat (c : Half) : put2 c.toNat = [c.setWidth 8, (c >>> 8).setWidth 8] := by
  have hhigh : c.toNat / 256 = (c >>> 8).toNat := by rw [BitVec.toNat_ushiftRight, Nat.shiftRight_eq_div_pow]
  rw [put2, hhigh, BitVec.ofNat_toNat, BitVec.ofNat_toNat]

/-- A 4-byte number laid out by its four bytes. -/
theorem put4_toNat (f : Word) :
    put4 f.toNat = [f.setWidth 8, (f >>> 8).setWidth 8, (f >>> 16).setWidth 8, (f >>> 24).setWidth 8] := by
  have hshift : ∀ n, (f >>> n).toNat = f.toNat / 2 ^ n := fun n => by rw [BitVec.toNat_ushiftRight, Nat.shiftRight_eq_div_pow]
  have h8 : f.toNat / 256 = (f >>> 8).toNat := (hshift 8).symm
  have h16 : f.toNat / 65536 = (f >>> 16).toNat := (hshift 16).symm
  have h24 : f.toNat / 65536 / 256 = (f >>> 24).toNat := 
    (Nat.div_div_eq_div_mul f.toNat 65536 256).trans (hshift 24).symm
  rw [put4, put2, put2, h24, h16, h8, BitVec.ofNat_toNat, BitVec.ofNat_toNat, BitVec.ofNat_toNat, BitVec.ofNat_toNat]
  rfl

/-- One byte more goes through the register after those before it. -/
theorem crc_append (covered : List Byte) (b : Byte) : crc (covered ++ [b]) = crcByte (crc covered) b := by
  rw [crc, List.foldl_append]
  rfl

/-! ### The end of a frame (O23) -/

theorem isResetReply_eq_false {r : Reply} (h : r.kind ≠ 0x83 ∨ r.payload ≠ [0x00]) : isResetReply r = false := by
  have hcode : ReqKind.reset.code + 0x80 = 0x83 := by decide
  rw [isResetReply, hcode, replyOk, Bool.and_eq_false_iff]
  exact h.imp decide_eq_false decide_eq_false

/-- The end of a reply that is not the RESET reply. -/
theorem State.exec_frameSent_reply {s : State} {r : Reply} {rest : List Reply} (hsending : s.link.transmitter = .sendingReply)
    (hreplies : s.link.replies = r :: rest) (h : s.link.resetPending = false ∨ isResetReply r = false) :
    exec .frameSent s = .next (s.setLink ({ s.link with replies := rest, transmitter := .idle } : Link).arbitrate) := by
  have hno : (s.link.resetPending && s.link.replies.head?.any isResetReply) = false := by
    rw [hreplies, List.head?_cons, Option.any_some]
    rcases h with h | h <;> simp [h]
  change execFrameSent s = _
  rw [execFrameSent, hsending]
  dsimp only
  rw [hno, if_neg Bool.false_ne_true, Link.replySent, hreplies]
  rfl

/-- Settles O23: the transmitter's three states, and the layouts read off. -/
theorem frameEndsAndArbiterChooses : Obligations.FrameEndsAndArbiterChooses := by
  refine ⟨fun s => ⟨fun hidle => ?_, fun n hsending => ⟨?_, ?_⟩, fun r rest hsending hreplies => ⟨?_, fun h => ?_⟩⟩,
    fun kind tag payload => ?_, ⟨rfl, fun covered b => crc_append covered b⟩, ?_⟩
  · change execFrameSent s = _
    rw [execFrameSent, hidle]
  · change execFrameSent s = _
    rw [execFrameSent, hsending]
    rfl
  · rw [Link.frameOnLine, hsending]
    rfl
  · rw [Link.frameOnLine, hsending, hreplies]
  · exact State.exec_frameSent_reply hsending hreplies (h.imp id isResetReply_eq_false)
  · intro covered
    rw [← put2_toNat]
    rfl
  · intro word region
    refine ⟨fun cause => ⟨rfl, ?_⟩, fun r => ⟨rfl, rfl⟩, fun r count reason => ⟨rfl, ?_⟩, fun r => ⟨rfl, rfl⟩,
      fun f => ⟨rfl, put4_toNat f⟩, fun event f => ⟨rfl, ?_⟩, fun d => ⟨rfl, ?_⟩, fun count => ⟨rfl, rfl⟩⟩
    · cases cause <;> rfl
    · cases reason <;> rfl
    · rw [noticePayload, put4_toNat]
      cases event <;> rfl
    · cases d <;> rfl

/-! ### The rows of the requests (R133, R134, R136) -/

/-- What a row of kind `k` and form `form` does where the body is not reached. -/
structure State.FollowsRow (s t : State) (k : ReqKind) (form : List Byte → Bool) : Prop where
  full : 4 ≤ s.link.replies.length → t = s
  other : (∀ q, s.link.requests.head? = some q → q.kind ≠ k.code) → t = s
  replay : ∀ q, s.link.requests.head? = some q → q.kind = k.code → form q.payload = true → s.link.replies.length < 4 →
    s.link.matchesStored q = true → t = s.replayHead
  length : ∀ q, s.link.requests.head? = some q → q.kind = k.code → form q.payload = true → s.link.replies.length < 4 →
    s.link.matchesStored q = false → q.payload.length ≠ k.payloadLength → t = s.finish q [0x02]

/-- A row that finds a head of its kind and form, and room, replays it, refuses its length or executes it. -/
theorem State.followsRow_of {s t : State} {k : ReqKind} {form : List Byte → Bool} {executed : Request → State}
    (hnil : s.link.requests = [] → t = s)
    (hcons : ∀ q rest, s.link.requests = q :: rest → t =
      if q.kind = k.code && form q.payload then
        if s.link.replies.length < Config.replySlots then
          if s.link.matchesStored q then s.replayHead
          else if q.payload.length ≠ k.payloadLength then s.finish q replyLength else executed q
        else s
      else s) : s.FollowsRow t k form := by
  have hhead : ∀ q, s.link.requests.head? = some q → ∃ rest, s.link.requests = q :: rest := fun q => List.head?_eq_some_iff.mp
  refine ⟨fun hfull => ?_, fun hother => ?_, fun q hq hk hf hroom hm => ?_, fun q hq hk hf hroom hm hl => ?_⟩
  · cases hrequests : s.link.requests with
    | nil => exact hnil hrequests
    | cons q rest => rw [hcons q rest hrequests, if_neg (Nat.not_lt.mpr hfull), ite_self]
  · cases hrequests : s.link.requests with
    | nil => exact hnil hrequests
    | cons q rest => rw [hcons q rest hrequests, if_neg (by simp [hother q (by rw [hrequests]; rfl)])]
  · obtain ⟨rest, hrequests⟩ := hhead q hq
    rw [hcons q rest hrequests, if_pos (by simp [hk, hf]), if_pos hroom, if_pos hm]
  · obtain ⟨rest, hrequests⟩ := hhead q hq
    rw [hcons q rest hrequests, if_pos (by simp [hk, hf]), if_pos hroom, hm, if_neg Bool.false_ne_true, if_pos hl]
    rfl

theorem State.serve_followsRow (s : State) (k : ReqKind) (form : List Byte → Bool) (body : State → List Byte → State × List Byte) :
    s.FollowsRow (s.serve k form body) k form := by
  refine State.followsRow_of (executed := fun q => (body s q.payload).1.finish q (body s q.payload).2) (fun h => ?_) fun q rest h => ?_
  · rw [State.serve, h]
  · rw [State.serve, h]

theorem State.serveReset_followsRow (s : State) : s.FollowsRow s.serveReset .reset anyForm := by
  refine State.followsRow_of (executed := s.acceptReset) (fun h => ?_) fun q rest h => ?_
  · rw [State.serveReset, h]
  · rw [State.serveReset, h]
    simp [anyForm]

theorem exec_followsRow {c : Instr} {k : ReqKind} {form : List Byte → Bool} (h : requestRow c = some (k, form)) (s : State) :
    ∃ t, exec c s = .next t ∧ s.FollowsRow t k form := by
  cases c <;> cases h
  case reset => exact ⟨_, rfl, s.serveReset_followsRow⟩
  all_goals exact ⟨_, rfl, s.serve_followsRow _ _ _⟩

/-- Every payload of a wrong length belongs to each row of its kind. -/
theorem requestRow_form {c : Instr} {k : ReqKind} {form : List Byte → Bool} (h : requestRow c = some (k, form)) {p : List Byte}
    (hp : p.length ≠ k.payloadLength) : form p = true := by
  have hstop : ∀ b : Byte, p.length ≠ 1 → decide (p ≠ [b]) = true := fun b hne => decide_eq_true fun heq => hne (by rw [heq]; rfl)
  cases c <;> cases h
  case stopInputNow => exact hstop 1 hp
  case stopInputFrameEnd => exact hstop 0 hp
  case setDrainEnable | setDrainDisable | setDrainAbort =>
    have hlength : p.length ≠ 4 := hp
    simp [setDrainForm, hlength]
  all_goals rfl

/-! ### Room, replay and the common checks (O28, O29, O30) -/

/-- With the reply queue full no request is executed. -/
theorem exec_waits {c : Instr} {s : State} (hc : (requestRow c).isSome ∨ c = .unknownRequest ∨ c = .replay)
    (hfull : 4 ≤ s.link.replies.length) : exec c s = .next s := by
  have hno : ¬s.link.replies.length < Config.replySlots := Nat.not_lt.mpr hfull
  rcases hc with hc | rfl | rfl
  · obtain ⟨⟨k, form⟩, hrow⟩ := Option.isSome_iff_exists.mp hc
    obtain ⟨t, ht, hfollows⟩ := exec_followsRow hrow s
    rw [ht, hfollows.full hfull]
  · refine congrArg Host.Outcome.next ?_
    unfold State.serveUnknown
    split
    · rfl
    · rw [if_neg hno, ite_self]
  · refine congrArg Host.Outcome.next ?_
    unfold State.serveReplay
    split
    · rfl
    · simp [hno]

/-- The end of an execution is the arbiter's choice with the reply entered. -/
theorem State.finish_link (s : State) (q : Request) (p : List Byte) : (s.finish q p).link =
    ({ s.link with
        requests := s.link.requests.tail, replies := s.link.replies ++ [replyTo q p]
        lastReply := some { tag := q.tag, kind := q.kind, reply := replyTo q p } } : Link).arbitrate := rfl

/-- Settles O28: no row runs without room, and the end of an execution ends in the arbiter. -/
theorem executionWaitsThenEntersReply : Obligations.ExecutionWaitsThenEntersReply := by
  refine ⟨fun c s hc hfull => exec_waits hc hfull, fun s q rest payload hrequests => ?_⟩
  intro reply t
  have hlink : t.link = _ := s.finish_link q payload
  refine ⟨rfl, ?_, s.finish_replies q payload, s.finish_lastReply q payload, fun hbusy => ?_, fun hidle hreplies hnotices => ?_⟩
  · rw [hlink, Link.arbitrate_requests, hrequests]
    rfl
  · rw [hlink, Link.arbitrate_busy]
    · exact ⟨rfl, rfl, rfl⟩
    · exact hbusy
  · rw [hlink, Link.arbitrate_of_reply]
    · exact ⟨rfl, rfl⟩
    · exact hidle
    · simp
    · simp [hnotices]

theorem Link.matchesStored_eq_true {l : Link} {q : Request} {stored : StoredReply} (hstored : l.lastReply = some stored)
    (htag : stored.tag = q.tag) (hkind : stored.kind = q.kind) : l.matchesStored q = true := by
  rw [Link.matchesStored, hstored]
  simp [htag, hkind]

theorem State.replayHead_eq {s : State} {q : Request} {rest : List Request} {stored : StoredReply} (hrequests : s.link.requests = q :: rest)
    (hstored : s.link.lastReply = some stored) : s.replayHead =
      { s with link := ({ s.link with requests := rest, replies := s.link.replies ++ [stored.reply] } : Link).arbitrate } := by
  rw [State.replayHead, hstored, hrequests]
  rfl

theorem State.serveUnknown_eq {s : State} {q : Request} (hhead : s.link.requests.head? = some q) (hkind : isRequestCode q.kind = false)
    (hroom : s.link.replies.length < 4) :
    s.serveUnknown = if s.link.matchesStored q then s.replayHead else s.finish q [0x01] := by
  obtain ⟨rest, hrequests⟩ := List.head?_eq_some_iff.mp hhead
  unfold State.serveUnknown
  rw [hrequests]
  dsimp only
  rw [hkind, if_neg Bool.false_ne_true, if_pos hroom]
  rfl

theorem State.serveReplay_eq {s : State} {q : Request} (hhead : s.link.requests.head? = some q) :
    s.serveReplay = if s.link.matchesStored q && s.link.replies.length < 4 then s.replayHead else s := by
  obtain ⟨rest, hrequests⟩ := List.head?_eq_some_iff.mp hhead
  unfold State.serveReplay
  rw [hrequests]

/-- REPLAY and every row that executes the head answer a repeated head with the stored reply. -/
theorem exec_repeated {c : Instr} {s : State} {q : Request} (hc : c = .replay ∨ rowServes c q) (hhead : s.link.requests.head? = some q)
    (hroom : s.link.replies.length < 4) (hm : s.link.matchesStored q = true) : exec c s = .next s.replayHead := by
  rcases hc with rfl | ⟨k, form, hrow, hk, hf⟩ | ⟨rfl, hkind⟩
  · exact congrArg Host.Outcome.next ((State.serveReplay_eq hhead).trans (if_pos (by simp [hm, hroom])))
  · obtain ⟨t, ht, hfollows⟩ := exec_followsRow hrow s
    rw [ht, hfollows.replay q hhead hk hf hroom hm]
  · exact congrArg Host.Outcome.next ((State.serveUnknown_eq hhead hkind hroom).trans (if_pos hm))

/-- Settles O29: the stored reply is entered by whatever row takes the head, and the resets and the break empty the store. -/
theorem repeatedRequestIsReplayed : Obligations.RepeatedRequestIsReplayed := by
  refine ⟨fun c s q rest stored hc hrequests hroom hstored htag hkind => ?_, fun s q hhead hnew => ?_,
    fun s t cause => ⟨rfl, fun hready hrxd hst => ?_⟩⟩
  · have hhead : s.link.requests.head? = some q := by rw [hrequests]; rfl
    refine ⟨_, exec_repeated hc hhead hroom (Link.matchesStored_eq_true hstored htag hkind), ?_⟩
    rw [State.replayHead_eq hrequests hstored]
    exact ⟨Link.arbitrate_requests _, Link.arbitrate_replies _, (Link.arbitrate_lastReply _).trans hstored, rfl⟩
  · refine congrArg Host.Outcome.next ((State.serveReplay_eq hhead).trans (if_neg ?_))
    simp [Link.matchesStored_eq_false hnew]
  · change execLinkBreak s = .next t at hst
    rw [execLinkBreak, if_pos (by simp [hready, hrxd])] at hst
    split at hst <;> cases hst <;> rfl

theorem isRequestCode_iff (kind : Byte) : isRequestCode kind = true ↔
    kind ∈ [0x01, 0x02, 0x03, 0x08, 0x09, 0x0A, 0x10, 0x11, 0x12, 0x13, 0x14, 0x15, 0x16, 0x18, 0x19, 0x1A, 0x1B, 0x20, 0x21, 0x28, 0x30] := by
  change _ ↔ kind ∈ ReqKind.all.map ReqKind.code
  rw [isRequestCode, List.any_eq_true, List.mem_map]
  simp

/-- Settles O30: the checks that come before a body. -/
theorem commonChecksRefuse : Obligations.CommonChecksRefuse := by
  refine ⟨fun s q hhead hroom hnew => ⟨fun hkind => ?_, fun c k form hrow hk hl => ?_⟩, isRequestCode_iff, fun c s k form hrow hother => ?_⟩
  · refine congrArg Host.Outcome.next ((State.serveUnknown_eq hhead hkind hroom).trans (if_neg ?_))
    simp [Link.matchesStored_eq_false hnew]
  · obtain ⟨t, ht, hfollows⟩ := exec_followsRow hrow s
    rw [ht, hfollows.length q hhead hk (requestRow_form hrow hl) hroom (Link.matchesStored_eq_false hnew) hl]
  · obtain ⟨t, ht, hfollows⟩ := exec_followsRow hrow s
    rw [ht, hfollows.other hother]

end Sys2Proof.Machine
end

section
/-! SUPPORT. START_INPUT, STOP_INPUT and HALT_REGION (O37, O41). -/

namespace Sys2Proof.Machine

/-! ### STOP_INPUT (O37) -/

/-- The reply to STOP_INPUT from the Framer that it leaves. -/
theorem State.stopReply_eq (t : State) :
    t.stopReply = (t, [0x00, framerCode t.framer.state, if t.framer.stopPending then 1 else 0]) := by
  rw [State.stopReply, putFlag_eq]
  rfl

theorem State.stopReply_enterStopped (t : State) : t.enterStopped.stopReply = (t.enterStopped, [0x00, 0x00, 0x00]) := by
  rw [State.stopReply_eq, enterStopped_framer]
  rfl

/-- What STOP_INPUT(NOW) leaves and replies, by the state of the Framer. -/
theorem State.stopNow_stopReply (s : State) : s.stopNow.stopReply =
    match s.framer.state with
    | .stopped => (s, [0x00, 0x00, if s.framer.stopPending then 1 else 0])
    | .waiting | .skipping => (s.enterStopped, [0x00, 0x00, 0x00])
    | .inFrame => ((s.abandonAll .inputStopped).enterStopped, [0x00, 0x00, 0x00]) := by
  unfold State.stopNow
  cases hstate : s.framer.state with
  | stopped => exact s.stopReply_eq.trans (by rw [hstate]; rfl)
  | waiting => exact s.stopReply_enterStopped
  | inFrame => exact (s.abandonAll .inputStopped).stopReply_enterStopped
  | skipping => exact s.stopReply_enterStopped

/-- What STOP_INPUT(FRAME_END) leaves and replies, by the state of the Framer. -/
theorem State.stopAtFrameEnd_stopReply (s : State) : s.stopAtFrameEnd.stopReply =
    match s.framer.state with
    | .stopped => (s, [0x00, 0x00, if s.framer.stopPending then 1 else 0])
    | .waiting => (s.enterStopped, [0x00, 0x00, 0x00])
    | .inFrame => ({ s with framer := { s.framer with stopPending := true } }, [0x00, 0x02, 0x01])
    | .skipping => ({ s with framer := { s.framer with stopPending := true } }, [0x00, 0x03, 0x01]) := by
  unfold State.stopAtFrameEnd
  cases hstate : s.framer.state with
  | stopped => exact s.stopReply_eq.trans (by rw [hstate]; rfl)
  | waiting => exact s.stopReply_enterStopped
  | inFrame => exact (State.stopReply_eq _).trans (by dsimp only; rw [hstate]; rfl)
  | skipping => exact (State.stopReply_eq _).trans (by dsimp only; rw [hstate]; rfl)

theorem State.stopInputNow_of_now (s : State) : s.stopInputNow [0x00] = s.stopNow.stopReply := if_pos rfl

theorem State.stopInputFrameEnd_of_frameEnd (s : State) : s.stopInputFrameEnd [0x01] = s.stopAtFrameEnd.stopReply := if_pos rfl

theorem byteAt_zero_ne {p : List Byte} {b : Byte} (hlength : p.length = 1) (hp : p ≠ [b]) : byteAt p 0 ≠ b := by
  obtain ⟨x, rfl⟩ := List.length_eq_one_iff.mp hlength
  exact fun hx => hp (congrArg (fun y => [y]) hx)

theorem State.ServesNext.exec_stopNow {s t : State} {q : Request} (hq : s.ServesNext .stopInput q) (hp : q.payload = [0x00])
    {reply : List Byte} (ht : s.stopNow.stopReply = (t, reply)) : exec .stopInputNow s = .next (t.finish q reply) :=
  hq.exec_eq rfl (by rw [hp]; rfl) (by rw [hp, State.stopInputNow_of_now, ht])

theorem State.ServesNext.exec_stopFrameEnd {s t : State} {q : Request} (hq : s.ServesNext .stopInput q) (hp : q.payload = [0x01])
    {reply : List Byte} (ht : s.stopAtFrameEnd.stopReply = (t, reply)) : exec .stopInputFrameEnd s = .next (t.finish q reply) :=
  hq.exec_eq rfl (by rw [hp]; rfl) (by rw [hp, State.stopInputFrameEnd_of_frameEnd, ht])

/-- Settles O37: each form by the state of the Framer; a payload of one byte that is neither form is refused by both rows. -/
theorem startAndStopInputByState : Obligations.StartAndStopInputByState := by
  refine ⟨fun s q hq => ⟨fun hstopped => hq.exec_eq rfl rfl (if_pos hstopped), fun hrunning => hq.exec_eq rfl rfl (if_neg hrunning)⟩,
    fun s q hq => ⟨fun hp => ?now, fun hp => ?frameEnd, fun hp0 hp1 => ?other⟩⟩
  case now =>
    have hnow := s.stopNow_stopReply
    refine ⟨fun hst => hq.exec_stopNow hp ?_, ?_, fun hst => hq.exec_stopNow hp ?_⟩
    · rw [hnow, hst]
    · rintro (hst | hst)
      · exact hq.exec_stopNow hp (by rw [hnow, hst])
      · exact hq.exec_stopNow hp (by rw [hnow, hst])
    · rw [hnow, hst]
  case frameEnd =>
    have hend := s.stopAtFrameEnd_stopReply
    refine ⟨fun hst => hq.exec_stopFrameEnd hp ?_, fun hst => hq.exec_stopFrameEnd hp ?_, fun hst => hq.exec_stopFrameEnd hp ?_,
      fun hst => hq.exec_stopFrameEnd hp ?_⟩ <;> rw [hend, hst]
  case other =>
    have hlength : q.payload.length = 1 := hq.2.2.1
    exact ⟨hq.exec_eq rfl (decide_eq_true hp1) (if_neg (byteAt_zero_ne hlength hp0)),
      hq.exec_eq rfl (decide_eq_true hp0) (if_neg (byteAt_zero_ne hlength hp1))⟩

/-! ### HALT_REGION (O41) -/

theorem State.haltRegion_of_bad_id (s : State) {p : List Byte} (h : 16 ≤ nat1 p 0) : s.haltRegion p = (s, [0x03, 0x00]) := by
  rw [State.haltRegion, regionOf_eq_none h]
  rfl

theorem State.haltRegion_of_id (s : State) {p : List Byte} {r : RegionId} (h : nat1 p 0 = r.val) : s.haltRegion p =
    if (s.entry r).run = .armed then ((s.setEntry r { s.entry r with run := .halted }).abandonOpen .halted r, [0x00])
    else (s, [0x04]) := by
  rw [State.haltRegion, regionOf_eq_some h]
  rfl

/-- Settles O41: the run state of an entry does not say which capture of its region is open. -/
theorem haltRegionAbandonsFillingCapture : Obligations.HaltRegionAbandonsFillingCapture := by
  intro s q hq
  refine ⟨fun hbad => hq.exec_eq rfl rfl (s.haltRegion_of_bad_id hbad), fun r hr => ?_⟩
  intro halted
  have hbody := s.haltRegion_of_id hr
  have hopen : halted.openCapture r = s.openCapture r := rfl
  refine ⟨fun hrun => hq.exec_eq rfl rfl (hbody.trans (if_neg hrun)), fun hrun hnone => ?_, fun c hrun hsome => ?_⟩
  · have hidle : halted.abandonOpen .halted r = halted := by rw [State.abandonOpen, hopen, hnone]
    exact hq.exec_eq rfl rfl ((hbody.trans (if_pos hrun)).trans (congrArg (·, [0x00]) hidle))
  · have habandoned : halted.abandonOpen .halted r = halted.abandon c .halted := by rw [State.abandonOpen, hopen, hsome]
    exact hq.exec_eq rfl rfl ((hbody.trans (if_pos hrun)).trans (congrArg (·, [0x00]) habandoned))

end Sys2Proof.Machine
end

section
/-! SUPPORT. The requests of Link Delivery: FETCH, READ, RELEASE, FLUSH (O42, O43, O44). -/

namespace Sys2Proof.Machine

/-! ### The link captures of a region (R85, R86, R88) -/

/-- Region `r` is link-served in the words of the definition (R86). -/
abbrev State.IsLinkServed (s : State) (r : RegionId) : Prop :=
  (∃ d, (s.entry r).definition = some d ∧ d.route = .link ∧ (s.entry r).run ≠ .unused) ∨ ∃ c ∈ s.captures, c.region = r ∧ c.route = .link

theorem State.linkServed_iff (s : State) (r : RegionId) : s.linkServed r = true ↔ s.IsLinkServed r := by
  rw [State.linkServed, Bool.or_eq_true, State.captureList, List.any_filter, List.any_eq_true]
  refine or_congr ?_ (by simp)
  cases (s.entry r).definition <;> simp

/-- The ACTIVE link captures of region `r`. -/
def State.fetchedList (s : State) (r : RegionId) : List Capture :=
  s.captures.filter (fun c => c.region = r && c.route = .link && c.delivery = .active)

theorem State.fetched_eq (s : State) (r : RegionId) : s.fetched r = (s.fetchedList r).head? := by
  rw [State.fetched, State.captureList, State.fetchedList, List.find?_filter, List.head?_filter]
  simp [Bool.and_assoc]

theorem State.fetchable_eq (s : State) (r : RegionId) : s.fetchable r =
    s.captures.filter (fun c => c.region = r && c.route = .link && (c.fill = .complete && c.delivery = .waiting)) := by
  rw [State.fetchable, State.candidates_eq, List.filter_filter]
  refine List.filter_congr fun c _ => ?_
  rw [Capture.isWaiting, ← Bool.and_assoc, Bool.and_comm (decide (c.route = .link))]

/-- A region with a fetched capture is link-served (R86). -/
theorem State.linkServed_of_fetched {s : State} {r : RegionId} {c : Capture} (h : s.fetched r = some c) : s.linkServed r = true := by
  rw [s.fetched_eq] at h
  have hmem := List.mem_filter.mp (List.mem_of_head? h)
  simp only [Bool.and_eq_true, decide_eq_true_eq] at hmem
  obtain ⟨hc, ⟨hregion, hroute⟩, -⟩ := hmem
  exact (s.linkServed_iff r).mpr (.inr ⟨c, hc, hregion, hroute⟩)

/-! ### FETCH (O42) -/

theorem State.fetch_of_bad_id (s : State) {p : List Byte} (h : 16 ≤ nat1 p 0) : s.fetch p = (s, [0x03, 0x00]) := by
  rw [State.fetch, regionOf_eq_none h]
  rfl

section
variable {s : State} {p : List Byte} {r : RegionId} (hr : nat1 p 0 = r.val)
include hr

theorem State.fetch_of_unserved (h : s.linkServed r = false) : s.fetch p = (s, [0x09]) := by
  rw [State.fetch, regionOf_eq_some hr]
  dsimp only
  rw [h]
  rfl

theorem State.fetch_of_served (h : s.linkServed r = true) : s.fetch p =
    match s.fetched r with
    | some c => (s, replyOk (fetchItems c (s.waitingCount r c)))
    | none =>
      match s.fetchable r with
      | [] => (s, replyEmpty)
      | c :: _ => (s.updateCapture c.slot (fun x => { x with delivery := .active }), replyOk (fetchItems c (s.waitingCount r c))) := by
  rw [State.fetch, regionOf_eq_some hr]
  dsimp only
  rw [h]
  rfl

end

/-- Where the records are distinct, the first of some of them is none of the others. -/
theorem State.RecordsDistinct.filter_rest {s : State} (hs : s.RecordsDistinct) {p : Capture → Bool} {c : Capture} {rest : List Capture}
    (h : s.captures.filter p = c :: rest) : (c :: rest).filter (fun x => x.slot ≠ c.slot) = rest := by
  have hnodup : ((c :: rest).map Capture.slot).Nodup := h ▸ hs.1.sublist (List.filter_sublist.map _)
  rw [List.map_cons, List.nodup_cons] at hnodup
  rw [List.filter_cons_of_neg (by simp), List.filter_eq_self]
  exact fun x hx => decide_eq_true fun heq => hnodup.1 (heq ▸ List.mem_map_of_mem hx)

/-- Settles O42: `fetched` and `fetchable` are the first ACTIVE, and all COMPLETE/WAITING, link captures of the region. -/
theorem fetchTakesOldestWaitingLinkCapture : Obligations.FetchTakesOldestWaitingLinkCapture := by
  intro s q hq
  refine ⟨fun hbad => hq.exec_eq rfl rfl (s.fetch_of_bad_id hbad), fun r hr => ?_⟩
  intro served waiting fetched describe
  have hwaiting : s.fetchable r = waiting := s.fetchable_eq r
  have hfetched : s.fetched r = fetched.head? := s.fetched_eq r
  have hcount (c : Capture) : s.waitingCount r c = (waiting.filter (fun x => x.slot ≠ c.slot)).length := by
    rw [State.waitingCount, hwaiting]
  have hdescribe (c : Capture) (n : Nat) : replyOk (fetchItems c n) = describe c n := by
    dsimp only [fetchItems, describe]
    cases c.label <;> rfl
  refine ⟨fun hunserved => ?_, fun _ c rest hc => ?_, fun hserved hnone hempty => ?_, fun hs c rest hnone hc => ?_⟩
  · have hfalse : s.linkServed r = false := Bool.eq_false_iff.mpr fun h => hunserved ((s.linkServed_iff r).mp h)
    exact hq.exec_eq rfl rfl (State.fetch_of_unserved hr hfalse)
  · have hsome : s.fetched r = some c := by rw [hfetched, hc]; rfl
    refine hq.exec_eq rfl rfl ((State.fetch_of_served hr (State.linkServed_of_fetched hsome)).trans ?_)
    rw [hsome]
    dsimp only
    rw [hdescribe, hcount]
  · refine hq.exec_eq rfl rfl ((State.fetch_of_served hr ((s.linkServed_iff r).mpr hserved)).trans ?_)
    rw [hfetched, hnone, hwaiting, hempty]
    rfl
  · have hserved : s.linkServed r = true := by
      have hmem : c ∈ waiting := by rw [hc]; exact List.mem_cons_self
      obtain ⟨hmem, htest⟩ := List.mem_filter.mp hmem
      simp only [Bool.and_eq_true, decide_eq_true_eq] at htest
      exact (s.linkServed_iff r).mpr (.inr ⟨c, hmem, htest.1⟩)
    refine hq.exec_eq rfl rfl ((State.fetch_of_served hr hserved).trans ?_)
    rw [hfetched, hnone, hwaiting, hc]
    dsimp only [List.head?]
    rw [hdescribe, hcount, hc, hs.filter_rest hc]
    rfl

/-! ### READ (O43) -/

theorem State.fetchedWithSeq_of_none {s : State} {r : RegionId} (h : s.fetched r = none) (seq : Nat) : s.fetchedWithSeq r seq = none := by
  rw [State.fetchedWithSeq, h, Option.filter_none]

theorem State.fetchedWithSeq_of_eq {s : State} {r : RegionId} {c : Capture} (h : s.fetched r = some c) {seq : Nat}
    (hseq : c.seq.toNat = seq) : s.fetchedWithSeq r seq = some c := by
  rw [State.fetchedWithSeq, h, Option.filter_some, if_pos (decide_eq_true hseq)]

theorem State.fetchedWithSeq_of_ne {s : State} {r : RegionId} {c : Capture} (h : s.fetched r = some c) {seq : Nat}
    (hseq : c.seq.toNat ≠ seq) : s.fetchedWithSeq r seq = none := by
  rw [State.fetchedWithSeq, h, Option.filter_some, if_neg (by simpa using hseq)]

theorem State.mismatch_of_none {s : State} {r : RegionId} (h : s.fetched r = none) : s.mismatch r = [0x08, 0x00, 0x00, 0x00] := by
  rw [State.mismatch, h]
  rfl

theorem State.mismatch_of_some {s : State} {r : RegionId} {c : Capture} (h : s.fetched r = some c) :
    s.mismatch r = [0x08, 0x01] ++ put2 c.seq.toNat := by
  rw [State.mismatch, h]
  rfl

theorem State.readCapture_of_bad_id (s : State) {p : List Byte} (h : 16 ≤ nat1 p 0) : s.readCapture p = (s, [0x03, 0x00]) := by
  rw [State.readCapture, regionOf_eq_none h]
  rfl

theorem State.readCapture_of_id (s : State) {p : List Byte} {r : RegionId} (h : nat1 p 0 = r.val) : s.readCapture p =
    if nat1 p 7 < 1 || 192 < nat1 p 7 then (s, [0x03, 0x03])
    else if !s.linkServed r then (s, [0x09])
    else
      match s.fetchedWithSeq r (nat2 p 1) with
      | none => (s, s.mismatch r)
      | some c =>
        if c.bytesExpected < nat4 p 3 + nat1 p 7 then (s, 0x07 :: put4 c.bytesExpected)
        else (s, 0x00 :: s.captureBytes c (nat4 p 3) (nat1 p 7)) := by
  rw [State.readCapture, regionOf_eq_some h]
  rfl

/-- Settles O43: the checks in their order. -/
theorem readAnswersBytesOfFetchedCapture : Obligations.ReadAnswersBytesOfFetchedCapture := by
  intro s q hq seq offset length
  refine ⟨fun hbad => hq.exec_eq rfl rfl (s.readCapture_of_bad_id hbad), fun r hr => ?_⟩
  have hbody := s.readCapture_of_id hr
  refine ⟨fun hlength => hq.exec_eq rfl rfl (hbody.trans (if_pos (by simpa using hlength))), fun hlow hhigh => ?_⟩
  have hgood : ¬(nat1 q.payload 7 < 1 || 192 < nat1 q.payload 7) = true := by
    simpa [length] using And.intro (Nat.one_le_iff_ne_zero.mp hlow) hhigh
  rw [if_neg hgood] at hbody
  refine ⟨fun hunserved => ?_, fun hserved hnone => ?_, fun c hc => ?_⟩
  · exact hq.exec_eq rfl rfl (hbody.trans (if_pos (by rw [hunserved]; rfl)))
  · refine hq.exec_eq rfl rfl (hbody.trans ((if_neg (by rw [hserved]; decide)).trans ?_))
    rw [State.fetchedWithSeq_of_none hnone]
    dsimp only
    rw [State.mismatch_of_none hnone]
  · rw [if_neg (by rw [State.linkServed_of_fetched hc]; decide)] at hbody
    refine ⟨fun hseq => ?_, fun hseq hlong => ?_, fun hseq hfit => ?_⟩
    · rw [State.fetchedWithSeq_of_ne hc hseq] at hbody
      rw [← State.mismatch_of_some hc]
      exact hq.exec_eq rfl rfl hbody
    · rw [State.fetchedWithSeq_of_eq hc hseq] at hbody
      exact hq.exec_eq rfl rfl (hbody.trans (if_pos hlong))
    · rw [State.fetchedWithSeq_of_eq hc hseq] at hbody
      exact hq.exec_eq rfl rfl (hbody.trans (if_neg (Nat.not_lt.mpr hfit)))

/-! ### RELEASE and FLUSH (O44) -/

theorem State.release_of_bad_id (s : State) {p : List Byte} (h : 16 ≤ nat1 p 0) : s.release p = (s, [0x03, 0x00]) := by
  rw [State.release, regionOf_eq_none h]
  rfl

theorem State.release_of_id (s : State) {p : List Byte} {r : RegionId} (h : nat1 p 0 = r.val) : s.release p =
    if !s.linkServed r then (s, [0x09])
    else
      match s.fetchedWithSeq r (nat2 p 1) with
      | none => (s, s.mismatch r)
      | some c => (s.freeCapture c, [0x00]) := by
  rw [State.release, regionOf_eq_some h]
  rfl

theorem State.flush_of_bad_id (s : State) {p : List Byte} (h : 16 ≤ nat1 p 0) : s.flush p = (s, [0x03, 0x00]) := by
  rw [State.flush, regionOf_eq_none h]
  rfl

theorem State.flush_of_id (s : State) {p : List Byte} {r : RegionId} (h : nat1 p 0 = r.val) :
    s.flush p = ((s.candidates r).foldl State.discard s, [0x00, BitVec.ofNat 8 (s.candidates r).length]) := by
  rw [State.flush, regionOf_eq_some h]
  rfl

/-- Discards one after another leave the records whose numbers are not among theirs. -/
theorem State.captures_discardAll (cs : List Capture) (s : State) :
    (cs.foldl State.discard s).captures = s.captures.filter (fun x => x.slot ∉ cs.map Capture.slot) := by
  induction cs generalizing s with
  | nil => simp
  | cons c rest ih =>
    have hcaptures : (s.discard c).captures = s.captures.filter (fun x => x.slot ≠ c.slot) := rfl
    rw [List.foldl_cons, ih, hcaptures, List.filter_filter]
    refine List.filter_congr fun x _ => ?_
    rw [List.map_cons]
    by_cases hslot : x.slot = c.slot <;> simp [hslot]

theorem State.freeCount_discardAll (cs : List Capture) (s : State) :
    (cs.foldl State.discard s).freeCount = s.freeCount + (cs.map (fun c => c.chain.length)).sum := by
  induction cs generalizing s with
  | nil => rfl
  | cons c rest ih =>
    have hcount : (s.discard c).freeCount = s.freeCount + c.chain.length := List.length_append
    rw [List.foldl_cons, ih, hcount, List.map_cons, List.sum_cons, Nat.add_assoc]

/-- Each discard of a capture of region `r` is a loss of `r`. -/
theorem State.lost_discardAll {cs : List Capture} {r : RegionId} (h : ∀ c ∈ cs, c.region = r) (s : State) :
    ((cs.foldl State.discard s).entry r).lost = (satInc^[cs.length]) (s.entry r).lost := by
  induction cs generalizing s with
  | nil => rfl
  | cons c rest ih =>
    have hone : ((s.discard c).entry r).lost = satInc (s.entry r).lost := by
      rw [State.discard, State.chargeLoss_entry, if_pos (h c List.mem_cons_self).symm, h c List.mem_cons_self]
      rfl
    rw [List.foldl_cons, ih (fun x hx => h x (List.mem_cons_of_mem _ hx)), hone, List.length_cons, Function.iterate_succ_apply]

/-- Where the records are distinct, the discards of all records with a property leave those without it. -/
theorem State.RecordsDistinct.captures_discard_filter {s : State} (hs : s.RecordsDistinct) (p : Capture → Bool) :
    ((s.captures.filter p).foldl State.discard s).captures = s.captures.filter (fun c => !p c) := by
  rw [State.captures_discardAll]
  refine List.filter_congr fun x hx => ?_
  rw [← decide_not.trans (congrArg not (Bool.decide_eq_true (b := p x))), decide_eq_decide, not_iff_not, List.mem_map]
  constructor
  · rintro ⟨c, hc, hslot⟩
    obtain ⟨hmem, htest⟩ := List.mem_filter.mp hc
    rw [← hs.eq_of_slot hx hmem hslot]
    exact htest
  · exact fun htest => ⟨x, List.mem_filter.mpr ⟨hx, htest⟩, rfl⟩

/-- Settles O44: RELEASE makes the checks of READ; FLUSH is a fold of discards. -/
theorem releaseAndFlushFreeCaptures : Obligations.ReleaseAndFlushFreeCaptures := by
  refine ⟨fun s q hq => ⟨fun hbad => hq.exec_eq rfl rfl (s.release_of_bad_id hbad), fun r hr => ?release⟩,
    fun s q hq => ⟨fun hbad => hq.exec_eq rfl rfl (s.flush_of_bad_id hbad), fun r hr => ?flush⟩⟩
  case release =>
    have hbody := s.release_of_id hr
    refine ⟨fun hunserved => ?_, fun hserved hnone => ?_, fun c hc => ?_⟩
    · exact hq.exec_eq rfl rfl (hbody.trans (if_pos (by rw [hunserved]; rfl)))
    · refine hq.exec_eq rfl rfl (hbody.trans ((if_neg (by rw [hserved]; decide)).trans ?_))
      rw [State.fetchedWithSeq_of_none hnone]
      dsimp only
      rw [State.mismatch_of_none hnone]
    · rw [if_neg (by rw [State.linkServed_of_fetched hc]; decide)] at hbody
      refine ⟨fun hseq => ?_, fun hseq => ?_⟩
      · rw [State.fetchedWithSeq_of_ne hc hseq] at hbody
        rw [← State.mismatch_of_some hc]
        exact hq.exec_eq rfl rfl hbody
      · rw [State.fetchedWithSeq_of_eq hc hseq] at hbody
        exact hq.exec_eq rfl rfl hbody
  case flush =>
    intro victims
    have hvictims : s.candidates r = victims := by
      rw [State.candidates_eq]
      rfl
    have hbody := s.flush_of_id hr
    rw [hvictims] at hbody
    refine ⟨hq.exec_eq rfl rfl hbody, fun hs => ⟨hs.captures_discard_filter _, State.freeCount_discardAll _ _,
      State.lost_discardAll (fun c hc => ?_) s⟩⟩
    rw [← hvictims] at hc
    exact (State.mem_candidates.mp hc).2.1

end Sys2Proof.Machine
end

section
/-! SUPPORT. The words that a drain presents, and the takes that accept them (O46, O47). -/

namespace Sys2Proof.Machine

/-! ### The presented word (O46) -/

section
variable {s : State} {d : DrainId} {c : Capture} {p : Position} (hc : s.head d = some c) (hp : (s.drain d).position = some p)
  (hq : (s.drain d).rq = .high)
include hc hp hq

theorem State.presentedWord_of_high : s.presentedWord d = some (s.wordAt c (s.drain d).wordsTaken p) := by
  rw [State.presentedWord, if_pos hq, hc, hp]

omit hc in
theorem State.startOfCapture_iff : s.startOfCapture d = true ↔ p = .header 0 := by
  rw [State.startOfCapture, hq, hp]
  simp

omit hc in
theorem State.endOfCapture_iff : s.endOfCapture d = true ↔ p = .trailer 1 := by
  rw [State.endOfCapture, hq, hp]
  simp

end

theorem State.presentedWord_of_low {s : State} {d : DrainId} (hq : (s.drain d).rq = .low) :
    s.presentedWord d = none ∧ s.startOfCapture d = false ∧ s.endOfCapture d = false := by
  rw [State.presentedWord, State.startOfCapture, State.endOfCapture, hq]
  exact ⟨rfl, rfl, rfl⟩

/-- The low half of a frame number. -/
theorem setWidth_word (n : Word) : n.setWidth 16 = BitVec.ofNat 16 (n.toNat % 65536) := by
  apply BitVec.eq_of_toNat_eq
  simp

/-- The high half of a frame number. -/
theorem setWidth_word_high (n : Word) : (n >>> 16).setWidth 16 = BitVec.ofNat 16 (n.toNat / 65536) := by
  apply BitVec.eq_of_toNat_eq
  simp [Nat.shiftRight_eq_div_pow]

theorem State.dataWord_eq (s : State) (c : Capture) (k : Nat) : s.dataWord c k =
    (if 2 * k + 1 < c.bytesExpected then s.captureByte c (2 * k + 1) else 0) ++ s.captureByte c (2 * k) := rfl

/-- Settles O46: the words in the order of the layout. -/
theorem presentedWordFollowsLayout : Obligations.PresentedWordFollowsLayout := by
  intro s d c p hc hp
  refine ⟨State.presentedWord_of_low, fun hq => ?_⟩
  have hword := State.presentedWord_of_high hc hp hq
  refine ⟨State.startOfCapture_iff hp hq, State.endOfCapture_iff hp hq, ?_, ?_, ?_, ?_, ?_, ?_, ?_, ?_, ?_, ?_, fun reason => ?_, ?_⟩
  · rintro rfl
    exact hword
  · rintro rfl
    exact hword
  · rintro rfl
    exact hword
  · rintro rfl
    rw [← setWidth_word]
    exact hword
  · rintro rfl
    rw [← setWidth_word_high]
    exact hword
  · rintro rfl
    exact hword
  · rintro rfl
    exact hword
  · rintro rfl
    have hlabel : c.headerWord 7 = match c.label with | some l => l | none => 0 := by
      change c.label.getD 0 = _
      cases c.label <;> rfl
    exact hword.trans (congrArg some hlabel)
  · rintro k rfl
    refine ⟨fun hin => ?_, fun hodd => ?_⟩
    · exact hword.trans (congrArg some ((s.dataWord_eq c k).trans (by rw [if_pos hin])))
    · exact hword.trans (congrArg some ((s.dataWord_eq c k).trans (by rw [if_neg (Nat.not_lt.mpr hodd)])))
  · rintro rfl hreason
    have hstatus : c.trailerStatus = 0 := by rw [Capture.trailerStatus, hreason]
    exact hword.trans (congrArg (fun b : Byte => some (b.setWidth 16)) hstatus)
  · rintro rfl hreason
    have hstatus : c.trailerStatus = lossCode reason := by rw [Capture.trailerStatus, hreason]
    refine (hword.trans (congrArg (fun b : Byte => some (b.setWidth 16)) hstatus)).trans ?_
    cases reason <;> rfl
  · rintro rfl
    exact hword

/-! ### An accepted take (O47) -/

theorem State.exec_take_of_high {s : State} {d : DrainId} {c : Capture} {p : Position} (hq : (s.drain d).rq = .high)
    (hc : s.head d = some c) (hp : (s.drain d).position = some p) : exec (.take d) s = .next (s.acceptTake d c p) := by
  change execTake d s = _
  rw [execTake, hq, hc, hp]

/-- The drain `d`, which was `x`, after an accepted take of a word that another follows: it is at `next`, and at the end of its burst
the condition is evaluated afresh (R104, R111). -/
def State.afterTake (u : State) (d : DrainId) (x : Drain) (next : Position) (taken : Nat) : State :=
  let moved := u.setDrain d { x with
    position := some next, burst := x.burst - 1, wordsTaken := taken
    timer := if x.timeout = 0 then .stopped else .running }
  if x.burst ≤ 1 then moved.evaluateBurst d else moved

theorem State.afterTake_of_advance {u : State} {d : DrainId} {x : Drain} {c : Capture} {p next : Position} {taken : Nat}
    (hadvance : x.advance c p = { x with
      position := some next, burst := x.burst - 1, wordsTaken := taken
      timer := if x.timeout = 0 then .stopped else .running }) :
    (if (x.advance c p).burst = 0 then (u.setDrain d (x.advance c p)).evaluateBurst d else u.setDrain d (x.advance c p)) =
      u.afterTake d x next taken := by
  have hend : x.burst - 1 = 0 ↔ x.burst ≤ 1 := Nat.sub_eq_zero_iff_le
  rw [hadvance, State.afterTake]
  simp only [hend]

theorem State.acceptTake_header (s : State) (d : DrainId) {c : Capture} {i : Nat} {next : Position}
    (hnext : c.nextPosition (.header i) = some next) :
    s.acceptTake d c (.header i) = s.afterTake d (s.drain d) next (s.drain d).wordsTaken := by
  rw [s.acceptTake_of_ne d c (by simp)]
  exact State.afterTake_of_advance (by simp only [Drain.advance, hnext])

theorem State.acceptTake_data (s : State) (d : DrainId) {c : Capture} {k : Nat} {next : Position}
    (hnext : c.nextPosition (.data k) = some next) :
    s.acceptTake d c (.data k) = (s.sendDataWord c k).afterTake d (s.drain d) next ((s.drain d).wordsTaken + 1) := by
  rw [s.acceptTake_of_ne d c (by simp)]
  exact State.afterTake_of_advance (by simp only [Drain.advance, hnext])

theorem State.acceptTake_status (s : State) (d : DrainId) (c : Capture) :
    s.acceptTake d c (.trailer 0) = s.afterTake d (s.drain d) (.trailer 1) (s.drain d).wordsTaken := by
  rw [s.acceptTake_of_ne d c (by simp)]
  exact State.afterTake_of_advance rfl

/-- A free of a record and a change of a drain that leaves out the record are independent. -/
theorem State.freeCapture_setDrain (s : State) (d : DrainId) (x : Drain) (c : Capture) :
    (s.setDrain d x).freeCapture c = (s.freeCapture c).setDrain d (x.drop c.slot) := by
  cases d <;> rfl

theorem State.acceptTake_last (s : State) (d : DrainId) (c : Capture) : s.acceptTake d c (.trailer 1) =
    ((s.freeCapture c).setDrain d ((s.drain d).restartTimer.drop c.slot)).moveOn d := by
  rw [← State.freeCapture_setDrain]
  rfl

/-- The last word of a capture takes the drain on by its state and by what waits in its queue. -/
theorem State.moveOn_setDrain (u : State) (d : DrainId) (x : Drain) : (u.setDrain d x).moveOn d =
    if x.state = .stopping then u.setDrain d (x.atRest .disabled)
    else if x.queue = [] then u.setDrain d (x.atRest .idle)
    else (u.setDrain d x).promote d := by
  unfold State.moveOn
  rw [State.drain_setDrain]
  split
  · rename_i hst
    rw [if_pos hst, State.setDrain_setDrain]
  · rename_i hst
    rw [if_neg hst]
    split
    · rename_i hqueue
      rw [if_pos hqueue, State.setDrain_setDrain]
    · rename_i hqueue
      rw [if_neg (by rw [hqueue]; simp)]

/-- Settles O47: the position after each word, and the drain after the last. -/
theorem takeAcceptsPresentedWord : Obligations.TakeAcceptsPresentedWord := by
  refine ⟨fun s d c p hq hc hp => ?_, fun s d c hq hc hp => ?_⟩
  · intro words moved answer sent
    have htake := State.exec_take_of_high hq hc hp
    have hsent (k : Nat) : s.sendDataWord c k = sent k := by
      rw [State.sendDataWord_eq]
      refine if_congr ?_ rfl rfl
      rw [Capture.endsBlock, Bool.or_eq_true, decide_eq_true_eq, decide_eq_true_eq]
      rfl
    refine ⟨?_, ?_, ?_, ?_, ?_⟩
    · rintro i rfl hi
      exact htake.trans (congrArg _ (s.acceptTake_header d (if_pos (Nat.succ_lt_succ hi))))
    · rintro rfl
      exact htake.trans (congrArg _ (s.acceptTake_header d rfl))
    · rintro k rfl hk
      rw [← hsent]
      exact htake.trans (congrArg _ (s.acceptTake_data d (if_pos hk)))
    · rintro k rfl hk
      rw [← hsent]
      exact htake.trans (congrArg _ (s.acceptTake_data d (if_neg (Nat.not_lt.mpr hk.ge))))
    · rintro rfl
      exact htake.trans (congrArg _ (s.acceptTake_status d c))
  · intro freed left rest
    have htake := (State.exec_take_of_high hq hc hp).trans
      (congrArg _ ((s.acceptTake_last d c).trans (State.moveOn_setDrain _ d _)))
    refine ⟨fun hst => htake.trans (congrArg _ (if_pos hst)), fun hst hleft => ?_, fun hst hleft => ?_⟩
    · have hrunning : ¬(s.drain d).state = .stopping := by rw [hst]; decide
      exact htake.trans (congrArg _ ((if_neg hrunning).trans (if_pos hleft)))
    · have hrunning : ¬(s.drain d).state = .stopping := by rw [hst]; decide
      exact htake.trans (congrArg _ ((if_neg hrunning).trans (if_neg hleft)))

end Sys2Proof.Machine
end

section
/-! SUPPORT. The actions of SET_DRAIN and the expiry of the stall timer (O49, O50). -/

namespace Sys2Proof.Machine

/-! ### The end of a head without a trailer (R59) -/

/-- The charge of a head that ends without a trailer: none if it is ABANDONED, for its abandonment was charged. -/
def State.chargeUnlessAbandoned (s : State) (c : Capture) (reason : LossReason) : State :=
  if c.fill = .abandoned then s else s.chargeLoss c.region reason

theorem State.chargeUnlessAbandoned_drain (s : State) (c : Capture) (reason : LossReason) (d : DrainId) :
    (s.chargeUnlessAbandoned c reason).drain d = s.drain d := by
  unfold State.chargeUnlessAbandoned
  split
  · rfl
  · cases d <;> rfl

theorem State.endHead_of_head {s : State} {d : DrainId} {c : Capture} (hc : s.head d = some c) (reason : LossReason) (st : DrainState) :
    s.endHead d reason st = ((s.freeCapture c).chargeUnlessAbandoned c reason).setDrain d { s.drain d with
      state := st, queue := (s.drain d).queue.filter (fun n => n ≠ c.slot), timer := .stopped, burst := 0
      position := none, wordsTaken := 0, rq := .low } := by
  have hdrain := (s.freeCapture c).chargeUnlessAbandoned_drain c reason d
  rw [State.freeCapture_drain] at hdrain
  have hend : s.endHead d reason st = ((s.freeCapture c).chargeUnlessAbandoned c reason).setDrain d
      ((((s.freeCapture c).chargeUnlessAbandoned c reason).drain d).atRest st) := by
    unfold State.endHead
    rw [hc]
    rfl
  rw [hend, hdrain]
  rfl

/-- Settles O50: the expiry of a running timer ends the head. -/
theorem stallExpiryFaultsDrain : Obligations.StallExpiryFaultsDrain := by
  intro s d
  refine ⟨fun hstopped => ?_, fun c hrunning hstate hc => ?_⟩
  · exact if_neg (by rw [hstopped]; simp)
  · intro freed charged
    have hexpires : ((s.drain d).timer = .running && (s.drain d).hasHead) = true := by
      rw [hrunning, Drain.hasHead_iff.mpr hstate]
      rfl
    have hexec : exec (.stallTimerExpiry d) s = .next ((s.endHead d .drainStall .fault).raise (.drain d)) := if_pos hexpires
    rw [hexec, State.endHead_of_head hc]
    rfl

/-! ### The fields of SET_DRAIN (R117) -/

theorem isSome_drainOf (p : List Byte) (i : Nat) : (drainOf (byteAt p i)).isSome = decide (nat1 p i ≤ 1) := by
  have hcode : nat1 p i ≤ 1 ↔ nat1 p i = 0 ∨ nat1 p i = 1 := Nat.le_one_iff_eq_zero_or_eq_one
  simp only [drainOf, byteAt_eq_iff, hcode]
  split_ifs <;> simp_all

theorem drainOf_eq {p : List Byte} {i : Nat} {d : DrainId} (h : nat1 p i = match d with | .a => 0 | .b => 1) :
    drainOf (byteAt p i) = some d := by
  cases d with
  | a => exact if_pos ((byteAt_eq_iff p i 0).mpr h)
  | b =>
    have hone : byteAt p i = 1 := (byteAt_eq_iff p i 1).mpr h
    rw [hone]
    rfl

theorem firstFailing_four (a b c d : Bool) :
    firstFailing [a, b, c, d] =
      if a = false then some 0 else if b = false then some 1 else if c = false then some 2 else if d = false then some 3 else none := by
  revert a b c d
  decide

/-- The action byte of a SET_DRAIN is the code of an action. -/
theorem action_known_iff (p : List Byte) : (byteAt p 1 = 0 || byteAt p 1 = 1 || byteAt p 1 = 2) = true ↔ nat1 p 1 ≤ 2 := by
  simp only [byteAt_eq_iff, Bool.or_eq_true, decide_eq_true_eq]
  change ((nat1 p 1 = 0 ∨ nat1 p 1 = 1) ∨ nat1 p 1 = 2) ↔ _
  omega

/-- The grain of a SET_DRAIN is in its range. -/
abbrev GoodGrain (n : Nat) : Prop := n = 1 ∨ n = 8 ∨ n = 32 ∨ n = 128

/-- The field that SET_DRAIN refuses: the drain, then the action, then the grain, then the timeout. -/
theorem firstFailing_setDrainChecks (p : List Byte) :
    firstFailing (setDrainChecks p) =
      if 1 < nat1 p 0 then some 0
      else if 2 < nat1 p 1 then some 1
      else if ¬GoodGrain (nat1 p 2) then some 2
      else if 250 < nat1 p 3 then some 3
      else none := by
  have haction : (byteAt p 1 = 0 || byteAt p 1 = 1 || byteAt p 1 = 2) = false ↔ 2 < nat1 p 1 := by
    rw [← Bool.not_eq_true, action_known_iff, not_le]
  have hgrain : (nat1 p 2 = 1 || nat1 p 2 = 8 || nat1 p 2 = 32 || nat1 p 2 = 128) = false ↔ ¬GoodGrain (nat1 p 2) := by
    simp [GoodGrain, and_assoc]
  rw [setDrainChecks, firstFailing_four, isSome_drainOf]
  simp only [haction, hgrain, decide_eq_false_iff_not, not_le]

/-! ### What SET_DRAIN answers -/

theorem State.setDrainWith_of_failing {p : List Byte} {i : Nat} (hi : firstFailing (setDrainChecks p) = some i)
    (effect : State → DrainId → List Byte → Option State) (s : State) : s.setDrainWith effect p = (s, [0x03, BitVec.ofNat 8 i]) := by
  rw [State.setDrainWith, hi]
  rfl

/-- The fields of a SET_DRAIN are in range, and it names drain `d`. -/
structure SetDrainFields (p : List Byte) (d : DrainId) : Prop where
  drain : nat1 p 0 = match d with | .a => 0 | .b => 1
  action : nat1 p 1 ≤ 2
  grain : GoodGrain (nat1 p 2)
  timeout : nat1 p 3 ≤ 250

section
variable {p : List Byte} {d : DrainId} (h : SetDrainFields p d) {effect : State → DrainId → List Byte → Option State} {s : State}
include h

theorem SetDrainFields.firstFailing_eq_none : firstFailing (setDrainChecks p) = none := by
  have hdrain : nat1 p 0 ≤ 1 := by
    rw [h.drain]
    cases d <;> decide
  rw [firstFailing_setDrainChecks, if_neg (Nat.not_lt.mpr hdrain), if_neg (Nat.not_lt.mpr h.action), if_neg (not_not.mpr h.grain),
    if_neg (Nat.not_lt.mpr h.timeout)]

theorem State.setDrainWith_of_refused (heffect : effect s d p = none) : s.setDrainWith effect p = (s, [0x04]) := by
  rw [State.setDrainWith, h.firstFailing_eq_none, drainOf_eq h.drain]
  dsimp only
  rw [heffect]
  rfl

theorem State.setDrainWith_of_done {t : State} (heffect : effect s d p = some t) :
    s.setDrainWith effect p = (t, [0x00, drainStateCode (t.drain d).state]) := by
  rw [State.setDrainWith, h.firstFailing_eq_none, drainOf_eq h.drain]
  dsimp only
  rw [heffect]
  rfl

end

/-! ### The three rows -/

/-- A SET_DRAIN belongs to the row of the action that its payload names. -/
theorem setDrainForm_of_action {p : List Byte} {a : Byte} (h : nat1 p 1 = a.toNat) : setDrainForm a p = true := by
  have hbyte : byteAt p 1 = a := (byteAt_eq_iff p 1 a).mpr h
  rw [setDrainForm, hbyte]
  simp

/-- An unknown action belongs to every row. -/
theorem setDrainForm_of_unknown {p : List Byte} (h : 2 < nat1 p 1) (a : Byte) : setDrainForm a p = true := by
  have hunknown : (byteAt p 1 = 0 || byteAt p 1 = 1 || byteAt p 1 = 2) = false :=
    Bool.eq_false_iff.mpr fun h' => Nat.not_le.mpr h ((action_known_iff p).mp h')
  rw [setDrainForm, hunknown, Bool.and_false]
  rfl

/-- The code of the action whose row is `c` (R161). -/
def setDrainAction : Instr → Nat
  | .setDrainEnable => 0
  | .setDrainDisable => 1
  | _ => 2

/-- A request that a row of SET_DRAIN takes. -/
theorem exec_setDrain_row {c : Instr} {s : State} (hc : c = .setDrainEnable ∨ c = .setDrainDisable ∨ c = .setDrainAbort) {p : List Byte}
    (hform : 2 < nat1 p 1 ∨ nat1 p 1 = setDrainAction c) :
    ∃ a effect, exec c s = .next (s.serve .setDrain (setDrainForm a) (State.setDrainWith effect)) ∧ setDrainForm a p = true := by
  rcases hc with rfl | rfl | rfl
  · exact ⟨_, _, rfl, hform.elim (setDrainForm_of_unknown · _) (setDrainForm_of_action (a := 0) ·)⟩
  · exact ⟨_, _, rfl, hform.elim (setDrainForm_of_unknown · _) (setDrainForm_of_action (a := 1) ·)⟩
  · exact ⟨_, _, rfl, hform.elim (setDrainForm_of_unknown · _) (setDrainForm_of_action (a := 2) ·)⟩

/-- The first field that fails is named by the row that takes the request. -/
theorem State.ServesNext.exec_setDrain_failing {s : State} {q : Request} (hq : s.ServesNext .setDrain q) {c : Instr}
    (hc : c = .setDrainEnable ∨ c = .setDrainDisable ∨ c = .setDrainAbort)
    (hform : 2 < nat1 q.payload 1 ∨ nat1 q.payload 1 = setDrainAction c) {i : Nat}
    (hi : firstFailing (setDrainChecks q.payload) = some i) : exec c s = .next (s.finish q [0x03, BitVec.ofNat 8 i]) := by
  obtain ⟨a, effect, hexec, hf⟩ := exec_setDrain_row (s := s) hc hform
  exact hq.exec_eq hexec hf (State.setDrainWith_of_failing hi effect s)

section
variable {s t : State} {q : Request} (hq : s.ServesNext .setDrain q) {d : DrainId} (h : SetDrainFields q.payload d) {code : Byte}
include hq h

theorem State.ServesNext.exec_enable (ha : nat1 q.payload 1 = 0) (ht : s.enableDrain d q.payload = some t)
    (hcode : drainStateCode (t.drain d).state = code) : exec .setDrainEnable s = .next (t.finish q [0x00, code]) :=
  hq.exec_eq rfl (setDrainForm_of_action ha) (hcode ▸ State.setDrainWith_of_done h ht)

theorem State.ServesNext.exec_disable (ha : nat1 q.payload 1 = 1) (ht : s.disableDrain d q.payload = some t)
    (hcode : drainStateCode (t.drain d).state = code) : exec .setDrainDisable s = .next (t.finish q [0x00, code]) :=
  hq.exec_eq rfl (setDrainForm_of_action ha) (hcode ▸ State.setDrainWith_of_done h ht)

theorem State.ServesNext.exec_abort (ha : nat1 q.payload 1 = 2) (ht : s.abortDrain d q.payload = some t)
    (hcode : drainStateCode (t.drain d).state = code) : exec .setDrainAbort s = .next (t.finish q [0x00, code]) :=
  hq.exec_eq rfl (setDrainForm_of_action ha) (hcode ▸ State.setDrainWith_of_done h ht)

end

/-! ### The actions by the state of the drain -/

theorem State.evaluateBurst_state (s : State) (d : DrainId) : ((s.evaluateBurst d).drain d).state = (s.drain d).state := by
  unfold State.evaluateBurst
  dsimp only
  split
  · split <;> rw [State.drain_setDrain]
  · rw [State.drain_setDrain]

/-- A promotion makes the drain STREAMING. -/
theorem State.promote_state {s : State} {d : DrainId} (h : (s.drain d).queue ≠ []) : ((s.promote d).drain d).state = .streaming := by
  obtain ⟨slot, rest, hqueue⟩ := List.exists_cons_of_ne_nil h
  rw [State.promote_of_queue hqueue, State.evaluateBurst_state, State.drain_setDrain]

section
variable {s : State} {d : DrainId} (p : List Byte)

theorem State.enableDrain_of_off (h : (s.drain d).state = .disabled ∨ (s.drain d).state = .fault) : s.enableDrain d p =
    if (s.drain d).queue = [] then some (s.setDrain d { s.drain d with grain := nat1 p 2, timeout := nat1 p 3, state := .idle })
    else some ((s.setDrain d { s.drain d with grain := nat1 p 2, timeout := nat1 p 3 }).promote d) := by
  unfold State.enableDrain
  rcases h with h | h
  · rw [h]
    dsimp only
    cases (s.drain d).queue <;> rfl
  · rw [h]
    dsimp only
    cases (s.drain d).queue <;> rfl

theorem State.enableDrain_of_idle (h : (s.drain d).state = .idle) :
    s.enableDrain d p = some (s.setDrain d { s.drain d with grain := nat1 p 2, timeout := nat1 p 3 }) := by
  rw [State.enableDrain, h]

theorem State.enableDrain_of_hasHead (h : (s.drain d).state = .streaming ∨ (s.drain d).state = .stopping) :
    s.enableDrain d p = none := by
  rcases h with h | h <;> rw [State.enableDrain, h]

theorem State.disableDrain_of_streaming (h : (s.drain d).state = .streaming) :
    s.disableDrain d p = some (s.setDrain d { s.drain d with state := .stopping }) := by
  rw [State.disableDrain, h]

theorem State.disableDrain_of_still (h : (s.drain d).state = .idle ∨ (s.drain d).state = .fault) :
    s.disableDrain d p = some (s.setDrain d { s.drain d with state := .disabled }) := by
  rcases h with h | h <;> rw [State.disableDrain, h]

theorem State.disableDrain_of_off (h : (s.drain d).state = .stopping ∨ (s.drain d).state = .disabled) : s.disableDrain d p = some s := by
  rcases h with h | h <;> rw [State.disableDrain, h]

theorem State.abortDrain_of_hasHead (h : (s.drain d).state = .streaming ∨ (s.drain d).state = .stopping) :
    s.abortDrain d p = some (s.endHead d .drainAbort .disabled) := by
  rcases h with h | h <;> rw [State.abortDrain, h]

theorem State.abortDrain_of_still (h : (s.drain d).state = .idle ∨ (s.drain d).state = .fault) :
    s.abortDrain d p = some (s.setDrain d { s.drain d with state := .disabled }) := by
  rcases h with h | h <;> rw [State.abortDrain, h]

theorem State.abortDrain_of_disabled (h : (s.drain d).state = .disabled) : s.abortDrain d p = some s := by
  rw [State.abortDrain, h]

end

/-- Settles O49: the checks in index order, then each action by the state of the drain. -/
theorem setDrainActionsByState : Obligations.SetDrainActionsByState := by
  refine ⟨fun s q hq => ?_, fun s q d hq hd hgrain htimeout => ?_⟩
  · intro grain timeout goodGrain
    refine ⟨fun c hc hform => ?refused, fun d hd ha hgrain htimeout => ?enable⟩
    case refused =>
      have hrow : 2 < nat1 q.payload 1 ∨ nat1 q.payload 1 = setDrainAction c := by rcases hc with rfl | rfl | rfl <;> exact hform
      have hchecks := firstFailing_setDrainChecks q.payload
      refine ⟨fun hdrain => ?_, fun hdrain haction => ?_, fun hdrain haction hgrain => ?_, fun hdrain haction hgrain htimeout => ?_⟩
      · exact hq.exec_setDrain_failing hc hrow (hchecks.trans (if_pos hdrain))
      · rw [if_neg (Nat.not_lt.mpr hdrain)] at hchecks
        exact hq.exec_setDrain_failing hc hrow (hchecks.trans (if_pos haction))
      · rw [if_neg (Nat.not_lt.mpr hdrain), if_neg (Nat.not_lt.mpr haction)] at hchecks
        exact hq.exec_setDrain_failing hc hrow (hchecks.trans (if_pos hgrain))
      · rw [if_neg (Nat.not_lt.mpr hdrain), if_neg (Nat.not_lt.mpr haction), if_neg (not_not.mpr hgrain)] at hchecks
        exact hq.exec_setDrain_failing hc hrow (hchecks.trans (if_pos htimeout))
    case enable =>
      intro set
      have hfields : SetDrainFields q.payload d := ⟨hd, by omega, hgrain, htimeout⟩
      have hset : set.drain d = { s.drain d with grain := grain, timeout := timeout } := s.drain_setDrain d _
      refine ⟨fun hoff => ⟨fun hempty => ?_, fun hwaits => ?_⟩, fun hidle => ?_, fun hhead => ?_⟩
      · refine hq.exec_enable hfields ha ((State.enableDrain_of_off _ hoff).trans (if_pos hempty)) ?_
        rw [State.drain_setDrain]
        rfl
      · refine hq.exec_enable hfields ha ((State.enableDrain_of_off _ hoff).trans (if_neg hwaits)) ?_
        rw [State.promote_state (s := set) (by rw [hset]; exact hwaits)]
        rfl
      · refine hq.exec_enable hfields ha (State.enableDrain_of_idle _ hidle) ?_
        rw [State.drain_setDrain, hidle]
        rfl
      · exact hq.exec_eq rfl (setDrainForm_of_action ha)
          (State.setDrainWith_of_refused hfields (State.enableDrain_of_hasHead _ hhead))
  · intro disabled
    have hdisabled : drainStateCode (disabled.drain d).state = 0 := by
      rw [State.drain_setDrain]
      rfl
    refine ⟨fun ha => ?disable, fun ha => ?abort⟩
    case disable =>
      have hfields : SetDrainFields q.payload d := ⟨hd, by omega, hgrain, htimeout⟩
      refine ⟨fun hst => ?_, fun hst => ?_, fun hst => ?_, fun hst => ?_⟩
      · refine hq.exec_disable hfields ha (State.disableDrain_of_streaming _ hst) ?_
        rw [State.drain_setDrain]
        rfl
      · exact hq.exec_disable hfields ha (State.disableDrain_of_still _ hst) hdisabled
      · exact hq.exec_disable hfields ha (State.disableDrain_of_off _ (.inl hst)) (by rw [hst]; rfl)
      · exact hq.exec_disable hfields ha (State.disableDrain_of_off _ (.inr hst)) (by rw [hst]; rfl)
    case abort =>
      have hfields : SetDrainFields q.payload d := ⟨hd, by omega, hgrain, htimeout⟩
      refine ⟨fun c hst hc => ?_, fun hst => ?_, fun hst => ?_⟩
      · intro freed charged
        have hend := (State.abortDrain_of_hasHead q.payload hst).trans (congrArg some (State.endHead_of_head hc .drainAbort .disabled))
        refine hq.exec_abort hfields ha hend ?_
        rw [State.drain_setDrain]
        rfl
      · exact hq.exec_abort hfields ha (State.abortDrain_of_still _ hst) hdisabled
      · exact hq.exec_abort hfields ha (State.abortDrain_of_disabled _ hst) (by rw [hst]; rfl)

end Sys2Proof.Machine
end

section
/-! SUPPORT. SET_NOTICES (O51). -/

namespace Sys2Proof.Machine

/-! ### The settings of a payload (R151, R161) -/

theorem isSome_settingOf (p : List Byte) (i : Nat) : (settingOf (byteAt p i)).isSome = decide (nat1 p i ≤ 1) := by
  have hcode : nat1 p i ≤ 1 ↔ nat1 p i = 0 ∨ nat1 p i = 1 := Nat.le_one_iff_eq_zero_or_eq_one
  simp only [settingOf, byteAt_eq_iff, hcode]
  split_ifs <;> simp_all

theorem noticeIndex_le (n : Notice) : noticeIndex n ≤ 7 := by
  cases n <;> simp [noticeIndex]

theorem readMask_masked_iff (p : List Byte) (k : Fin 7) : (readMask p)[k] = .masked ↔ nat1 p k.val = 1 := by
  have hget : (readMask p)[k] = (settingOf (byteAt p k.val)).getD .enabled := Vector.getElem_ofFn k.isLt
  rw [hget]
  simp only [settingOf, byteAt_eq_iff]
  split_ifs <;> simp_all

/-- A setting in range is laid out by its own byte. -/
theorem settingCode_readMask {p : List Byte} {k : Fin 7} (h : nat1 p k.val ≤ 1) : settingCode (readMask p)[k] = byteAt p k.val := by
  have hmasked := readMask_masked_iff p k
  symm
  rw [byteAt_eq_iff]
  cases hsetting : (readMask p)[k] with
  | masked => exact hmasked.mp hsetting
  | enabled =>
    have hne : nat1 p k.val ≠ 1 := fun hone => by
      rw [hmasked.mpr hone] at hsetting
      cases hsetting
    exact (by omega : nat1 p k.val = 0)

/-- The reply to SET_NOTICES repeats the payload. -/
theorem settingCodes_readMask {p : List Byte} (hlength : p.length = 7) (h : ∀ k, k < 7 → nat1 p k ≤ 1) :
    (readMask p).toList.map settingCode = p := by
  refine List.ext_getElem (by simp [hlength]) fun k hk _ => ?_
  have hk' : k < 7 := by simpa using hk
  rw [List.getElem_map, Vector.getElem_toList]
  refine (settingCode_readMask (k := ⟨k, hk'⟩) (h k hk')).trans ?_
  simp [byteAt, hlength, hk']

/-! ### What SET_NOTICES answers -/

theorem State.setNotices_of_bad (s : State) {p : List Byte} {k : Nat} (hk : k < 7) (hbefore : ∀ j, j < k → nat1 p j ≤ 1)
    (hbad : 1 < nat1 p k) : s.setNotices p = (s, [0x03, BitVec.ofNat 8 k]) := by
  have hcheck : ∀ j, j < 7 → ((List.range 7).map (fun k => (settingOf (byteAt p k)).isSome))[j]? = some (decide (nat1 p j ≤ 1)) := by
    intro j hj
    rw [List.getElem?_map, List.getElem?_range hj, Option.map_some, isSome_settingOf]
  have hfirst : firstFailing ((List.range 7).map (fun k => (settingOf (byteAt p k)).isSome)) = some k := by
    refine firstFailing_eq_some (fun j hj => ?_) ?_
    · rw [hcheck j (hj.trans hk), decide_eq_true (hbefore j hj)]
    · rw [hcheck k hk, decide_eq_false (Nat.not_le.mpr hbad)]
  rw [State.setNotices, hfirst]
  rfl

theorem State.setNotices_of_good (s : State) {p : List Byte} (h : ∀ k, k < 7 → nat1 p k ≤ 1) :
    s.setNotices p = ({ s with link := s.link.setMask (readMask p) }, 0x00 :: (readMask p).toList.map settingCode) := by
  have hfirst : firstFailing ((List.range 7).map (fun k => (settingOf (byteAt p k)).isSome)) = none := by
    refine firstFailing_eq_none fun ok hok => ?_
    obtain ⟨k, hk, rfl⟩ := List.mem_map.mp hok
    rw [isSome_settingOf, decide_eq_true (h k (List.mem_range.mp hk))]
  rw [State.setNotices, hfirst]
  rfl

/-- A kind is left in the set when its setting reads 0; STARTED always is. -/
theorem isMasked_readMask (l : Link) {p : List Byte} (h : ∀ k, k < 7 → nat1 p k ≤ 1) (n : Notice) :
    (!({ l with mask := readMask p } : Link).isMasked n) = (noticeIndex n = 0 || nat1 p (noticeIndex n - 1) = 0) := by
  have hle := noticeIndex_le n
  unfold Link.isMasked
  generalize noticeIndex n = i at hle
  cases i with
  | zero => rfl
  | succ k =>
    have hget : (readMask p).toList[k]? = some (readMask p)[(⟨k, hle⟩ : Fin 7)] := by simp [Nat.lt_of_succ_le hle]
    have hmasked : (readMask p).toList[k]? = some .masked ↔ nat1 p k = 1 := by
      rw [hget, Option.some_inj]
      exact readMask_masked_iff p ⟨k, hle⟩
    have hsetting := h k hle
    have hstays : (!decide ((readMask p).toList[k]? = some .masked)) = decide (nat1 p k = 0) := by
      rw [← decide_not, decide_eq_decide, hmasked]
      omega
    exact hstays.trans (by simp)

/-- Settles O51: the first setting out of range is named; else the mask is read and the reply repeats it. -/
theorem setNoticesMasksKinds : Obligations.SetNoticesMasksKinds := by
  intro s q hq
  refine ⟨fun k hk hbefore hbad => hq.exec_eq rfl rfl (s.setNotices_of_bad hk hbefore hbad), fun hgood => ?_⟩
  have hlength : q.payload.length = 7 := hq.2.2.1
  refine ⟨readMask q.payload, readMask_masked_iff q.payload, ?_⟩
  have hbody := s.setNotices_of_good hgood
  have hmask : s.link.setMask (readMask q.payload) = { s.link with
      mask := readMask q.payload
      notices := s.link.notices.filter (fun n => noticeIndex n = 0 || nat1 q.payload (noticeIndex n - 1) = 0) } := by
    unfold Link.setMask
    simp only [isMasked_readMask s.link hgood]
  rw [settingCodes_readMask hlength hgood, hmask] at hbody
  exact hq.exec_eq rfl rfl hbody

end Sys2Proof.Machine
end

section
/-! SUPPORT. A pixel's bytes land in their order (O14). -/

namespace Sys2Proof.Machine

/-! ### The bytes of a pixel in memory (R52) -/

section
variable {cells : List Host.Cell} {c : Capture} {b : Nat} (hb : c.chain.getLast? = some b)
include hb

theorem writePixelCells_of_last (bytes : List Byte) : writePixelCells cells c bytes =
    (bytes.zipIdx (c.bytesWritten % 512)).foldl (fun m x => Memory.write m (cellOf b x.2) x.1) cells := by
  rw [writePixelCells, hb]

theorem read_writePixelCells_low (hcells : Memory.wf cells) (hbpp : c.bpp = 1 ∨ c.bpp = 2) (v : Half) :
    Memory.read (writePixelCells cells c (pixelBytes c.bpp v)) (cellOf b (c.bytesWritten % 512)) = v.setWidth 8 := by
  rw [writePixelCells_of_last hb]
  have hfirst := Memory.read_write_same cells hcells (cellOf b (c.bytesWritten % 512)) (v.setWidth 8)
  rcases hbpp with hbpp | hbpp
  · rw [hbpp]
    exact hfirst
  · have hnext : cellOf b (c.bytesWritten % 512) ≠ cellOf b (c.bytesWritten % 512 + 1) := by
      simp [cellOf]
    rw [hbpp]
    exact (Memory.read_write_other _ ((v >>> 8).setWidth 8) hnext).trans hfirst

theorem read_writePixelCells_high (hcells : Memory.wf cells) (hbpp : c.bpp = 2) (v : Half) :
    Memory.read (writePixelCells cells c (pixelBytes c.bpp v)) (cellOf b (c.bytesWritten % 512 + 1)) = (v >>> 8).setWidth 8 := by
  rw [writePixelCells_of_last hb, hbpp]
  exact Memory.read_write_same _ (Memory.write_wf cells hcells _ _) _ _

end

/-! ### The block that a pixel's bytes go to -/

/-- The block request of a pixel of the open capture `c`: none inside a block (R53). -/
def State.askedFor (s : State) (r : RegionId) (c : Capture) : State × Bool :=
  if c.bytesWritten % 512 = 0 then State.requestBlock r c.slot (s.discardable r) s else (s, true)

/-- A request that is granted leaves some discards and, at a block boundary, a grant; the pixel is then stored. -/
theorem State.RecordsDistinct.askedFor_granted {s : State} (hs : s.RecordsDistinct) {r : RegionId} {c : Capture}
    (hc : s.openCapture r = some c) (hgranted : (s.askedFor r c).2 = true) (v : Half) :
    ∃ cs : List Capture, cs.Sublist (s.candidates r) ∧ (cs.foldl State.discard s).openCapture r = some c ∧
      ((c.bytesWritten % 512 ≠ 0 ∧ (s.askedFor r c).1 = cs.foldl State.discard s) ∨
        (c.bytesWritten % 512 = 0 ∧ (cs.foldl State.discard s).memory.freePool ≠ [] ∧
          (s.askedFor r c).1 = (cs.foldl State.discard s).grantBlock c.slot)) ∧
      ∃ c₀, (s.askedFor r c).1.capture c.slot = some c₀ ∧
        s.writePixel r v = ((s.askedFor r c).1.storePixel c₀ v).tellDrainOfWrite c₀ := by
  by_cases hboundary : c.bytesWritten % 512 = 0
  · have hasked : s.askedFor r c = State.requestBlock r c.slot (s.discardable r) s := if_pos hboundary
    obtain ⟨k, -, -, hend⟩ := s.requestBlock_spec r c.slot (s.discardable r)
    have hsub : ((s.discardable r).take k).Sublist (s.candidates r) := (List.take_sublist _ _).trans (s.discardable_sublist _)
    have hrun : Effects True .writing s (((s.discardable r).take k).foldl State.discard s) := .discardCandidates (fun _ => hs) hsub
    have hopen := State.openCapture_discardAll hc fun x hx => hs.openCapture_ne_candidate hc (hsub.subset hx)
    refine ⟨(s.discardable r).take k, hsub, hopen, ?_⟩
    rcases hend with ⟨hgrant, heq⟩ | ⟨-, -, heq⟩
    · have hpool := State.freePool_ne_nil_of_grantable hgrant
      obtain ⟨b, rest, -, hsome⟩ := State.grantBlock_capture (hrun.keeps_recordsDistinct hs) hpool hopen
      rw [hasked, heq]
      refine ⟨.inr ⟨hboundary, hpool, rfl⟩, _, hsome, ?_⟩
      unfold State.writePixel
      rw [hc]
      dsimp only
      rw [if_pos hboundary, heq]
      simp only [if_true, hsome]
    · rw [hasked, heq] at hgranted
      cases hgranted
  · have hasked : s.askedFor r c = (s, true) := if_neg hboundary
    rw [hasked]
    refine ⟨[], List.nil_sublist _, hc, .inl ⟨hboundary, rfl⟩, c, hs.capture_eq (State.openCapture_eq_some hc).1, ?_⟩
    unfold State.writePixel
    rw [hc]
    exact if_neg hboundary

theorem State.cells_discardAll (cs : List Capture) (s : State) : (cs.foldl State.discard s).memory.cells = s.memory.cells := by
  induction cs generalizing s with
  | nil => rfl
  | cons c rest ih => exact ih (s.discard c)

section
variable {u w : State} {c c₀ : Capture} {blocks : List Nat} (h : WriteGrant u w c c₀ blocks)
include h

/-- The last block is there inside a block, and newly granted at a boundary. -/
theorem WriteGrant.getLast (hchain : c.bytesWritten % 512 ≠ 0 → c.chain ≠ []) : ∃ b, c₀.chain.getLast? = some b ∧
    (c.bytesWritten % 512 ≠ 0 → c₀.chain = c.chain) ∧ (c.bytesWritten % 512 = 0 → c₀.chain = c.chain ++ [b]) := by
  have hrecord : c₀.chain = c.chain ++ blocks := by rw [h.record]
  rw [hrecord]
  rcases h.blocks with ⟨hinside, hnone, -⟩ | ⟨hboundary, b, hone, -⟩
  · rw [hnone, List.append_nil]
    exact ⟨_, List.getLast?_eq_some_getLast (hchain hinside), fun _ => rfl, fun hboundary => absurd hboundary hinside⟩
  · rw [hone]
    exact ⟨b, List.getLast?_concat, fun hinside => absurd hboundary hinside, fun _ => rfl⟩

variable (hu : u.PoolKept) (hc : c ∈ u.captures)
include hu hc

/-- No block of the capture is in another chain. -/
theorem WriteGrant.notMem_other {x : Capture} (hx : x ∈ u.captures) (hne : c ≠ x) {b : Nat} (hb : b ∈ c₀.chain) : b ∉ x.chain := by
  rw [h.record] at hb
  rcases List.mem_append.mp hb with hin | hin
  · exact hu.1.chains_disjoint hc hx hne hin
  · refine hu.1.free_not_chained ?_ hx
    rcases h.blocks with ⟨-, hnone, -⟩ | ⟨-, b', hone, hpool⟩
    · rw [hnone] at hin
      cases hin
    · rw [hone] at hin
      rw [hpool, List.mem_singleton.mp hin]
      exact List.mem_cons_self

/-- No block is twice in the capture's chain. -/
theorem WriteGrant.nodup : c₀.chain.Nodup := by
  have hrecord : c₀.chain = c.chain ++ blocks := by rw [h.record]
  have hown : c.chain.Nodup := (List.nodup_flatMap.mp (List.nodup_append'.mp hu.1.nodup).2.1).1 c hc
  rw [hrecord]
  rcases h.blocks with ⟨-, hnone, -⟩ | ⟨-, b, hone, hpool⟩
  · rw [hnone, List.append_nil]
    exact hown
  · have hfree : b ∉ c.chain := hu.1.free_not_chained (by rw [hpool]; exact List.mem_cons_self) hc
    rw [hone]
    exact List.nodup_append'.mpr ⟨hown, List.nodup_singleton b, by simpa using hfree⟩

end

/-! ### A capture's bytes by its chain (R66, R79) -/

theorem State.captureByte_of_block {s : State} {c : Capture} {i b : Nat} (h : c.chain[i / 512 - c.bytesSent / 512]? = some b) :
    s.captureByte c i = Memory.read s.memory.cells (cellOf b (i % 512)) := by
  unfold State.captureByte
  dsimp only [Config.blockSize]
  rw [h]

/-- A byte of a capture is what memory holds in the blocks of its chain. -/
theorem State.captureByte_congr {s t : State} {c : Capture}
    (h : ∀ b ∈ c.chain, ∀ o, o < 512 → Memory.read t.memory.cells (cellOf b o) = Memory.read s.memory.cells (cellOf b o)) (i : Nat) :
    t.captureByte c i = s.captureByte c i := by
  unfold State.captureByte
  split
  · rename_i b hb
    exact h b (List.mem_of_getElem? hb) _ (Nat.mod_lt _ (by decide))
  · rfl

theorem State.capture_of_map {s t : State} {f : Capture → Capture} (ht : t.captures = s.captures.map f) (hf : ∀ x, (f x).slot = x.slot)
    (n : Nat) : t.capture n = (s.capture n).map f := by
  rw [State.capture, State.capture, ht, List.find?_map]
  simp only [Function.comp_def, hf]

/-! ### The write (O14) -/

section
variable {u w : State} {c c₀ : Capture} {blocks : List Nat} (h : WriteGrant u w c c₀ blocks) (v : Half)
include h

/-- The record after the write. -/
theorem WriteGrant.capture_told (hc₀ : w.capture c.slot = some c₀) : ∃ c', ((w.storePixel c₀ v).tellDrainOfWrite c₀).capture c.slot = some c' ∧
    c' = { c₀ with bytesWritten := c.bytesWritten + c.bpp, delivery := c'.delivery } := by
  have hslot : c₀.slot = c.slot := by rw [h.record]
  have hstored : (w.storePixel c₀ v).capture c.slot = some { c₀ with bytesWritten := c.bytesWritten + c.bpp } := by
    rw [State.capture_of_map (s := w) (t := w.storePixel c₀ v) (State.updateCapture_captures _ _ _) (fun x => by split <;> rfl), hc₀,
      Option.map_some, if_pos rfl, h.record]
  obtain ⟨-, f, hf, hcases⟩ := State.tellDrainOfWrite_promotes (w.storePixel c₀ v) c₀
  have hslots : ∀ x, (f x).slot = x.slot := fun x => by rcases hcases x with hx | ⟨hx, -⟩ <;> rw [hx]
  refine ⟨_, (State.capture_of_map hf hslots c.slot).trans (congrArg (Option.map f) hstored), ?_⟩
  rcases hcases { c₀ with bytesWritten := c.bytesWritten + c.bpp } with hx | ⟨hx, -⟩ <;> rw [hx]

variable (hu : u.PoolKept) (hc : c ∈ u.captures) {b : Nat} (hb : c₀.chain.getLast? = some b)
  (hwhole : c.bpp = 1 ∨ (c.bpp = 2 ∧ c.bytesWritten % 2 = 0))
include hwhole hb

/-- Every cell but those of the pixel keeps its byte. -/
theorem WriteGrant.read_other {a : Nat} (ha : ∀ i < c.bpp, a ≠ cellOf b (c.bytesWritten % 512 + i)) :
    Memory.read (writePixelCells w.memory.cells c₀ (pixelBytes c₀.bpp v)) a = Memory.read u.memory.cells a := by
  rw [← h.cells]
  refine read_writePixelCells_other _ _ _ _ fun b' hb' i hi => ?_
  rw [hb] at hb'
  obtain rfl := Option.some.inj hb'
  rw [h.record] at hi ⊢
  rw [length_pixelBytes (hwhole.imp id And.left)] at hi
  exact ha i hi

include hu hc

/-- The bytes of the other captures stay. -/
theorem WriteGrant.other_bytes {x : Capture} (hx : x ∈ ((w.storePixel c₀ v).tellDrainOfWrite c₀).captures) (hne : x.slot ≠ c.slot) (i : Nat) :
    ((w.storePixel c₀ v).tellDrainOfWrite c₀).captureByte x i = u.captureByte x i := by
  obtain ⟨hmemory, f, hf, hcases⟩ := State.tellDrainOfWrite_promotes (w.storePixel c₀ v) c₀
  rw [hf, h.stored v, List.map_map] at hx
  obtain ⟨y, hy, rfl⟩ := List.mem_map.mp hx
  have hslots : ∀ z, (f z).slot = z.slot := fun z => by rcases hcases z with hz | ⟨hz, -⟩ <;> rw [hz]
  have hchains : ∀ z, (f z).chain = z.chain := fun z => by rcases hcases z with hz | ⟨hz, -⟩ <;> rw [hz]
  rw [Function.comp_apply, hslots] at hne
  have hyne : y.slot ≠ c.slot := fun hslot => hne (by rw [if_pos hslot]; exact hslot)
  refine State.captureByte_congr (fun b' hb' o ho => ?_) i
  rw [Function.comp_apply, hchains, if_neg hyne] at hb'
  rw [hmemory]
  refine h.read_other v hb hwhole fun i hi heq => ?_
  have hblock := (cellOf_inj ho (Capture.WholePixels.room hwhole hi) heq).1
  exact h.notMem_other hu hc hy (fun heq => hyne (by rw [heq])) (List.mem_of_getLast? hb) (hblock ▸ hb')

end

/-! ### The place of a byte in the chain -/

section
variable {u w : State} {c c₀ : Capture} {blocks : List Nat} (h : WriteGrant u w c c₀ blocks)
  (hsent : c.bytesSent ≤ c.bytesWritten) (hlength : c.chain.length = ceilDiv c.bytesWritten 512 - c.bytesSent / 512)
include h hsent hlength

theorem WriteGrant.length_chain : c₀.chain.length = c.bytesWritten / 512 + 1 - c.bytesSent / 512 := by
  have hrecord : c₀.chain = c.chain ++ blocks := by rw [h.record]
  rw [hrecord, List.length_append, hlength, ceilDiv]
  rcases h.blocks with ⟨hinside, hnone, -⟩ | ⟨hboundary, b, hone, -⟩
  · rw [hnone, List.length_nil]
    simp only [Config.blockSize] at hinside
    omega
  · rw [hone, List.length_singleton]
    simp only [Config.blockSize] at hboundary
    omega

/-- The last block holds the byte that is written next. -/
theorem WriteGrant.getElem_last {b : Nat} (hb : c₀.chain.getLast? = some b) :
    c₀.chain[c.bytesWritten / 512 - c.bytesSent / 512]? = some b := by
  rw [List.getLast?_eq_getElem?, h.length_chain hsent hlength] at hb
  have hindex : c.bytesWritten / 512 + 1 - c.bytesSent / 512 - 1 = c.bytesWritten / 512 - c.bytesSent / 512 := by omega
  rwa [hindex] at hb

omit hsent in
/-- A byte written before stands in its block of the chain as it was. -/
theorem WriteGrant.getElem_before {i : Nat} (hlow : c.bytesSent / 512 * 512 ≤ i) (hi : i < c.bytesWritten) :
    ∃ b, c.chain[i / 512 - c.bytesSent / 512]? = some b ∧ c₀.chain[i / 512 - c.bytesSent / 512]? = some b := by
  have hrecord : c₀.chain = c.chain ++ blocks := by rw [h.record]
  have hlt : i / 512 - c.bytesSent / 512 < c.chain.length := by
    rw [hlength, ceilDiv]
    omega
  exact ⟨_, List.getElem?_eq_getElem hlt, by rw [hrecord, List.getElem?_append_left hlt, List.getElem?_eq_getElem hlt]⟩

end

/-- The record after a write holds the pixel behind the bytes written before, which stay. -/
theorem WriteGrant.in_order {u w t : State} {c c₀ c' : Capture} {blocks : List Nat} (h : WriteGrant u w c c₀ blocks) (hu : u.PoolKept)
    (hc : c ∈ u.captures) {b : Nat} (hb : c₀.chain.getLast? = some b) (hwhole : c.bpp = 1 ∨ (c.bpp = 2 ∧ c.bytesWritten % 2 = 0))
    (hcells : u.CellsCanonical) (v : Half) (ht : t.memory.cells = writePixelCells w.memory.cells c₀ (pixelBytes c₀.bpp v))
    (hchain : c'.chain = c₀.chain) (hkept : c'.bytesSent = c.bytesSent) (hwritten : c'.bytesWritten = c.bytesWritten + c.bpp)
    (hsent : c.bytesSent ≤ c.bytesWritten) (hlength : c.chain.length = ceilDiv c.bytesWritten 512 - c.bytesSent / 512) :
    t.captureByte c' c.bytesWritten = v.setWidth 8 ∧
    (c.bpp = 2 → t.captureByte c' (c.bytesWritten + 1) = (v >>> 8).setWidth 8) ∧
    (∀ i, c.bytesSent / 512 * 512 ≤ i → i < c.bytesWritten → t.captureByte c' i = u.captureByte c i) ∧
    c'.bytesSent = c.bytesSent ∧ c'.chain.length = ceilDiv c'.bytesWritten 512 - c'.bytesSent / 512 := by
  have hfields : c₀.bpp = c.bpp ∧ c₀.bytesWritten = c.bytesWritten := by rw [h.record]; exact ⟨rfl, rfl⟩
  obtain ⟨hbpp, hoffset⟩ := hfields
  have hlast := h.getElem_last hsent hlength hb
  have hwcells : Memory.wf w.memory.cells := by rw [h.cells]; exact hcells
  refine ⟨?_, fun htwo => ?_, fun i hlow hi => ?_, hkept, ?_⟩
  · have hplace : c'.chain[c.bytesWritten / 512 - c'.bytesSent / 512]? = some b := by rw [hchain, hkept, hlast]
    rw [State.captureByte_of_block hplace, ht, ← hoffset]
    exact read_writePixelCells_low hb hwcells (hbpp ▸ hwhole.imp id And.left) v
  · have heven : c.bytesWritten % 2 = 0 := by omega
    have hindex : (c.bytesWritten + 1) / 512 = c.bytesWritten / 512 := by omega
    have hplace : c'.chain[(c.bytesWritten + 1) / 512 - c'.bytesSent / 512]? = some b := by rw [hchain, hkept, hindex, hlast]
    have hcell : (c.bytesWritten + 1) % 512 = c₀.bytesWritten % 512 + 1 := by omega
    rw [State.captureByte_of_block hplace, ht, hcell]
    exact read_writePixelCells_high hb hwcells (hbpp.trans htwo) v
  · obtain ⟨b', hbefore, hafter⟩ := h.getElem_before hlength hlow hi
    have hplace : c'.chain[i / 512 - c'.bytesSent / 512]? = some b' := by rw [hchain, hkept, hafter]
    rw [State.captureByte_of_block hplace, State.captureByte_of_block hbefore, ht]
    refine h.read_other v hb hwhole fun j hj heq => ?_
    obtain ⟨hblock, hin⟩ := cellOf_inj (Nat.mod_lt _ (by decide)) (Capture.WholePixels.room hwhole hj) heq
    rw [hblock] at hafter
    have hlt : i / 512 - c.bytesSent / 512 < c₀.chain.length := (List.getElem?_eq_some_iff.mp hafter).1
    have hsame := (List.getElem?_inj hlt (h.nodup hu hc)).mp (hafter.trans hlast.symm)
    omega
  · rw [hchain, hkept, hwritten, h.length_chain hsent hlength, ceilDiv]
    omega

/-- Settles O14: the discards of the request touch no byte, and the pixel goes to the last block of the chain. -/
theorem pixelBytesLandInOrder : Obligations.PixelBytesLandInOrder := by
  intro s r v c hpool hs hw hcells hc o asked t hgranted hchain
  obtain ⟨cs, hsub, hopen, hcase, c₀, hc₀, ht⟩ := hs.askedFor_granted hc hgranted v
  have hregion := (State.openCapture_eq_some hc).2.1
  have hwhole := hw c (State.openCapture_eq_some hc).1
  have hkept : (cs.foldl State.discard s).PoolKept :=
    (Effects.discardCandidates (D := True) (ph := .writing) (fun _ => hs) hsub).keeps (P := State.PoolKept)
      (fun h hs => ⟨h.keeps_poolLaw trivial hs, h.keeps_recordsDistinct hs.2⟩) ⟨hpool, hs⟩
  have hmem := (State.openCapture_eq_some hopen).1
  have hucells : (cs.foldl State.discard s).memory.cells = s.memory.cells := State.cells_discardAll cs s
  have hasked : s.askedFor r c = asked := rfl
  rw [hasked] at hcase hc₀ ht
  change t = _ at ht
  generalize cs.foldl State.discard s = u at hopen hcase hkept hmem hucells
  obtain ⟨blocks, hgrant⟩ := hkept.2.writeGrant (hregion ▸ hopen) hcase hc₀
  obtain ⟨b, hb, hinside, hboundary⟩ := hgrant.getLast hchain
  obtain ⟨c', hc', hrecord⟩ := hgrant.capture_told v hc₀
  have hmemory := (State.tellDrainOfWrite_promotes (asked.1.storePixel c₀ v) c₀).1
  have hbyte : ∀ x i, u.captureByte x i = s.captureByte x i := fun x i => by rw [State.captureByte, State.captureByte, hucells]
  rw [← ht] at hc' hmemory
  have htcells : t.memory.cells = writePixelCells asked.1.memory.cells c₀ (pixelBytes c₀.bpp v) := by rw [hmemory]; rfl
  have hfields : c₀.slot = c.slot ∧ c₀.bpp = c.bpp ∧ c₀.bytesWritten = c.bytesWritten ∧ c₀.bytesSent = c.bytesSent := by
    rw [hgrant.record]
    exact ⟨rfl, rfl, rfl, rfl⟩
  obtain ⟨hslot, hbpp, hoffset, hsent⟩ := hfields
  have hcanonical : u.CellsCanonical := by rw [State.CellsCanonical, hucells]; exact hcells
  have hwcells : Memory.wf asked.1.memory.cells := by rw [hgrant.cells]; exact hcanonical
  have hchain' : c'.chain = c₀.chain := by rw [hrecord]
  have hsent' : c'.bytesSent = c.bytesSent := by rw [hrecord]; exact hsent
  have hwritten' : c'.bytesWritten = c.bytesWritten + c.bpp := by rw [hrecord]
  refine ⟨c₀, c', b, _, hc₀, ?_, hb, hinside, hboundary, ?_, htcells, hc', hwritten', hchain', ?_, fun htwo => ?_, fun a ha ha' => ?_,
    fun x hx hne i => ?_, fun hle hlength => ?_⟩
  · rw [hgrant.record]
  · rw [ht, State.storePixel, State.updateCapture, hslot]
  · have hlow := read_writePixelCells_low hb hwcells (hbpp ▸ hwhole.imp id And.left) v
    rw [hoffset] at hlow
    exact hlow
  · have hhigh := read_writePixelCells_high hb hwcells (hbpp.trans htwo) v
    rw [hoffset] at hhigh
    exact hhigh
  · refine (hgrant.read_other v hb hwhole fun i hi => ?_).trans (by rw [hucells])
    rcases hwhole with hone | ⟨htwo, -⟩
    · obtain rfl : i = 0 := by omega
      exact ha
    · have hsecond := ha' htwo
      rcases (by omega : i = 0 ∨ i = 1) with rfl | rfl
      · exact ha
      · exact hsecond
  · rw [ht] at hx ⊢
    exact (hgrant.other_bytes v hkept hmem hb hwhole hx hne i).trans (hbyte x i)
  · obtain ⟨hfirst, hsecond, hbefore, hrest⟩ := hgrant.in_order hkept hmem hb hwhole hcanonical v htcells hchain' hsent' hwritten' hle hlength
    exact ⟨hfirst, hsecond, fun i hlow hi => (hbefore i hlow hi).trans (hbyte c i), hrest⟩

end Sys2Proof.Machine
end

section
/-! SUPPORT. The due evaluation at a frame start (O9, O10). -/

namespace Sys2Proof.Machine

/-! ### The due evaluation of one region (R44, R45) -/

/-- The entry `e` of a region makes it due under the definition `d` (R44). -/
def ActiveEntry.DueFor (e : ActiveEntry) (d : RegionDef) : Prop :=
  e.definition = some d ∧ e.run = .armed ∧ e.phase = 0 ∧ (d.mode = .continuous ∨ e.remaining ≠ 0)

theorem ActiveEntry.countsLeft_iff {e : ActiveEntry} {d : RegionDef} : e.countsLeft d = true ↔ d.mode = .continuous ∨ e.remaining ≠ 0 := by
  unfold ActiveEntry.countsLeft
  cases d.mode <;> simp

/-- The entry of a region after its due evaluation, but for the losses. -/
def ActiveEntry.evaluated (e : ActiveEntry) : ActiveEntry :=
  match e.definition with
  | none => e
  | some d =>
    if e.run = .armed then
      if e.phase = 0 then
        if e.countsLeft d then { e with phase := d.stride - 1, nextSeq := e.nextSeq + 1 } else { e with phase := d.stride - 1 }
      else { e with phase := e.phase - 1 }
    else e

section
variable {e : ActiveEntry} {d : RegionDef}

theorem ActiveEntry.evaluated_of_armed (hd : e.definition = some d) (hr : e.run = .armed) : e.evaluated =
    if e.phase = 0 then
      if e.countsLeft d then { e with phase := d.stride - 1, nextSeq := e.nextSeq + 1 } else { e with phase := d.stride - 1 }
    else { e with phase := e.phase - 1 } := by
  rw [ActiveEntry.evaluated, hd]
  exact if_pos hr

theorem ActiveEntry.evaluated_of_not_armed (hr : e.run ≠ .armed) : e.evaluated = e := by
  unfold ActiveEntry.evaluated
  split
  · rfl
  · exact if_neg hr

theorem ActiveEntry.DueFor.evaluated (h : e.DueFor d) : e.evaluated = { e with phase := d.stride - 1, nextSeq := e.nextSeq + 1 } := by
  obtain ⟨hd, hr, hphase, hcount⟩ := h
  rw [ActiveEntry.evaluated_of_armed hd hr, if_pos hphase, if_pos (ActiveEntry.countsLeft_iff.mpr hcount)]

/-- The due evaluation changes the phase and, where the region is due, the next sequence number. -/
theorem ActiveEntry.evaluated_of_not_due (h : ¬∃ d, e.DueFor d) : e.evaluated = { e with phase := e.evaluated.phase } := by
  unfold ActiveEntry.evaluated
  split
  · rfl
  · rename_i d hd
    split
    · rename_i hr
      split
      · rename_i hphase
        have hleft : e.countsLeft d = false :=
          Bool.eq_false_iff.mpr fun hcount => h ⟨d, hd, hr, hphase, ActiveEntry.countsLeft_iff.mp hcount⟩
        rw [hleft]
        rfl
      · rfl
    · rfl

/-- The losses of a region have no part in its due evaluation. -/
theorem ActiveEntry.evaluated_lost (e : ActiveEntry) (n : Half) : ({ e with lost := n } : ActiveEntry).evaluated = { e.evaluated with lost := n } := by
  rcases Option.eq_none_or_eq_some e.definition with hd | ⟨d, hd⟩
  · have hnone (x : ActiveEntry) (hx : x.definition = none) : x.evaluated = x := by rw [ActiveEntry.evaluated, hx]
    rw [hnone { e with lost := n } hd, hnone e hd]
  · by_cases hr : e.run = .armed
    · have hcounts : ({ e with lost := n } : ActiveEntry).countsLeft d = e.countsLeft d := rfl
      rw [ActiveEntry.evaluated_of_armed (e := { e with lost := n }) hd hr, ActiveEntry.evaluated_of_armed hd hr, hcounts]
      split
      · split <;> rfl
      · rfl
    · rw [ActiveEntry.evaluated_of_not_armed (e := { e with lost := n }) hr, ActiveEntry.evaluated_of_not_armed hr]

end

/-- The depth step and the record step of a due region (R46 to R50), from the state in which its sequence number is consumed. -/
def State.openWith (n : State) (r : RegionId) (d : RegionDef) (seq : Half) : State :=
  let roomy := if d.policy = .keepNew then State.makeRoom r d.depth (n.candidates r) n else n
  if roomy.completeCount r < d.depth then roomy.openRecord r d seq else roomy.chargeLoss r .depth

theorem State.setEntry_setEntry (s : State) (r : RegionId) (e e' : ActiveEntry) : (s.setEntry r e).setEntry r e' = s.setEntry r e' := by
  rw [State.setEntry, State.setEntry, State.setEntry]
  simp

theorem State.setEntry_self (s : State) (r : RegionId) : s.setEntry r (s.entry r) = s := by
  rw [State.setEntry, State.entry]
  simp

theorem State.evaluateRegion_of_due {s : State} {r : RegionId} {d : RegionDef} (h : (s.entry r).DueFor d) :
    s.evaluateRegion r = (s.setEntry r (s.entry r).evaluated).openWith r d (s.entry r).nextSeq := by
  have hevaluated := h.evaluated
  obtain ⟨hd, hr, hphase, hcount⟩ := h
  unfold State.evaluateRegion
  dsimp only
  split
  · rename_i hnone
    rw [hd] at hnone
    cases hnone
  rename_i d' hd'
  obtain rfl : d' = d := Option.some.inj (hd'.symm.trans hd)
  rw [if_pos hr, if_pos hphase, if_pos (ActiveEntry.countsLeft_iff.mpr hcount), State.openDue]
  dsimp only
  rw [State.setEntry_entry_same, State.setEntry_setEntry, hevaluated]
  rfl

theorem State.evaluateRegion_of_not_due {s : State} {r : RegionId} (h : ¬∃ d, (s.entry r).DueFor d) :
    s.evaluateRegion r = s.setEntry r (s.entry r).evaluated := by
  unfold State.evaluateRegion ActiveEntry.evaluated
  dsimp only
  cases hd : (s.entry r).definition with
  | none => exact (s.setEntry_self r).symm
  | some d =>
    dsimp only
    by_cases hr : (s.entry r).run = .armed
    · rw [if_pos hr, if_pos hr]
      by_cases hphase : (s.entry r).phase = 0
      · have hleft : (s.entry r).countsLeft d = false :=
          Bool.eq_false_iff.mpr fun hcount => h ⟨d, hd, hr, hphase, ActiveEntry.countsLeft_iff.mp hcount⟩
        rw [if_pos hphase, if_pos hphase, hleft]
        rfl
      · rw [if_neg hphase, if_neg hphase]
    · rw [if_neg hr, if_neg hr]
      exact (s.setEntry_self r).symm

/-! ### The entries after it -/

/-- Of the entries, only the losses differ. -/
def State.LosesOnly (s t : State) : Prop := ∀ x, t.entry x = { s.entry x with lost := (t.entry x).lost }

namespace State.LosesOnly

theorem refl (s : State) : s.LosesOnly s := fun _ => rfl

theorem trans {s t u : State} (h : s.LosesOnly t) (h' : t.LosesOnly u) : s.LosesOnly u := fun x => by
  rw [h' x, h x]

theorem chargeLoss (s : State) (r : RegionId) (reason : LossReason) : s.LosesOnly (s.chargeLoss r reason) := fun x => by
  rw [State.chargeLoss_entry]
  split
  · rename_i hx
    rw [hx]
  · rfl

theorem discard (s : State) (c : Capture) : s.LosesOnly (s.discard c) := chargeLoss (s.freeCapture c) c.region .discarded

theorem makeRoom (r : RegionId) (depth : Nat) (cs : List Capture) (s : State) : s.LosesOnly (State.makeRoom r depth cs s) :=
  State.makeRoom_keeps s.LosesOnly r depth (fun _ c hs => hs.trans (discard _ c)) cs s (refl s)

theorem openRecord (s : State) (r : RegionId) (d : RegionDef) (seq : Half) : s.LosesOnly (s.openRecord r d seq) := by
  unfold State.openRecord
  split
  · exact chargeLoss s r .noRecord
  · exact refl s

theorem openWith (n : State) (r : RegionId) (d : RegionDef) (seq : Half) : n.LosesOnly (n.openWith r d seq) := by
  have hroom : n.LosesOnly (if d.policy = .keepNew then State.makeRoom r d.depth (n.candidates r) n else n) := by
    split
    · exact makeRoom _ _ _ _
    · exact refl n
  unfold State.openWith
  dsimp only
  generalize (if d.policy = .keepNew then _ else _ : State) = w at hroom
  split
  · exact hroom.trans (openRecord w r d seq)
  · exact hroom.trans (chargeLoss w r .depth)

end State.LosesOnly

/-- The due evaluation of a region moves its own entry, and no other but for the losses. -/
theorem State.evaluateRegion_losesOnly (s : State) (r : RegionId) : (s.setEntry r (s.entry r).evaluated).LosesOnly (s.evaluateRegion r) := by
  by_cases h : ∃ d, (s.entry r).DueFor d
  · obtain ⟨d, hd⟩ := h
    rw [State.evaluateRegion_of_due hd]
    exact .openWith _ r d _
  · rw [State.evaluateRegion_of_not_due h]
    exact .refl _

theorem State.evaluateRegion_entry_same (s : State) (r : RegionId) :
    (s.evaluateRegion r).entry r = { (s.entry r).evaluated with lost := ((s.evaluateRegion r).entry r).lost } := by
  have h := s.evaluateRegion_losesOnly r r
  rwa [State.setEntry_entry_same] at h

theorem State.evaluateRegion_entry_other (s : State) {r x : RegionId} (hx : x ≠ r) :
    (s.evaluateRegion r).entry x = { s.entry x with lost := ((s.evaluateRegion r).entry x).lost } := by
  have h := s.evaluateRegion_losesOnly r x
  rwa [State.setEntry_entry_other _ _ hx] at h

theorem State.evaluateRegions_entry_other {l : List RegionId} {x : RegionId} (hx : x ∉ l) (s : State) :
    (l.foldl State.evaluateRegion s).entry x = { s.entry x with lost := ((l.foldl State.evaluateRegion s).entry x).lost } := by
  induction l generalizing s with
  | nil => rfl
  | cons r rest ih =>
    rw [List.mem_cons, not_or] at hx
    obtain ⟨hne, hrest⟩ := hx
    rw [List.foldl_cons, ih hrest, s.evaluateRegion_entry_other hne]

theorem State.evaluateRegions_entry {l : List RegionId} (hl : l.Nodup) {x : RegionId} (hx : x ∈ l) (s : State) :
    (l.foldl State.evaluateRegion s).entry x = { (s.entry x).evaluated with lost := ((l.foldl State.evaluateRegion s).entry x).lost } := by
  induction l generalizing s with
  | nil => cases hx
  | cons r rest ih =>
    obtain ⟨hr, hrest⟩ := List.nodup_cons.mp hl
    rw [List.foldl_cons]
    by_cases hne : x = r
    · rw [hne, State.evaluateRegions_entry_other hr, s.evaluateRegion_entry_same]
    · rw [ih hrest ((List.mem_cons.mp hx).resolve_left hne), s.evaluateRegion_entry_other hne, ActiveEntry.evaluated_lost]

/-! ### The records after it -/

/-- The records that are left when those of `cs` are discarded. -/
def keptWithout (cs l : List Capture) : List Capture := l.filter (fun x => x.slot ∉ cs.map Capture.slot)

/-- What the due evaluation of a region does to the records: some candidates of the region are discarded, and one record may be added,
with a number that none has. -/
theorem State.openWith_captures (n : State) (r : RegionId) (d : RegionDef) (seq : Half) : ∃ cs : List Capture, cs.Sublist (n.candidates r) ∧
    ((n.openWith r d seq).captures = keptWithout cs n.captures ∨
      ∃ slot, (∀ x ∈ keptWithout cs n.captures, x.slot ≠ slot) ∧
        (n.openWith r d seq).captures =
          keptWithout cs n.captures ++ [openedCapture slot r seq n.framer.frameNumber d n.framer.depth.bpp]) := by
  have hroom : ∃ cs : List Capture, cs.Sublist (n.candidates r) ∧
      (if d.policy = .keepNew then State.makeRoom r d.depth (n.candidates r) n else n).captures = keptWithout cs n.captures ∧
      (if d.policy = .keepNew then State.makeRoom r d.depth (n.candidates r) n else n).framer = n.framer := by
    split
    · obtain ⟨k, -, -, -, heq⟩ := n.makeRoom_spec r d.depth (n.candidates r)
      exact ⟨_, List.take_sublist k _, by rw [heq, State.captures_discardAll]; rfl, State.makeRoom_framer _ _ _ _⟩
    · exact ⟨[], List.nil_sublist _, by simp [keptWithout], rfl⟩
  obtain ⟨cs, hsub, hcaptures, hframer⟩ := hroom
  refine ⟨cs, hsub, ?_⟩
  unfold State.openWith
  dsimp only
  generalize (if d.policy = .keepNew then _ else _ : State) = w at hcaptures hframer
  split
  · unfold State.openRecord
    split
    · exact .inl hcaptures
    · rename_i slot rest hfree
      have hslot : slot ∈ w.freeRecords := by rw [hfree]; exact List.mem_cons_self
      refine .inr ⟨slot, fun x hx => ?_, by rw [hframer, ← hcaptures]⟩
      exact (State.mem_freeRecords.mp hslot).2 x (hcaptures ▸ hx)
  · exact .inl hcaptures

theorem State.evaluateRegion_captures (s : State) (r : RegionId) : ∃ cs : List Capture, cs.Sublist (s.candidates r) ∧
    ((s.evaluateRegion r).captures = keptWithout cs s.captures ∨
      ∃ d slot, (s.entry r).DueFor d ∧ (∀ x ∈ keptWithout cs s.captures, x.slot ≠ slot) ∧
        (s.evaluateRegion r).captures =
          keptWithout cs s.captures ++ [openedCapture slot r (s.entry r).nextSeq s.framer.frameNumber d s.framer.depth.bpp]) := by
  by_cases h : ∃ d, (s.entry r).DueFor d
  · obtain ⟨d, hd⟩ := h
    rw [State.evaluateRegion_of_due hd]
    obtain ⟨cs, hsub, hcases⟩ := (s.setEntry r (s.entry r).evaluated).openWith_captures r d (s.entry r).nextSeq
    exact ⟨cs, hsub, hcases.imp id fun ⟨slot, hfresh, heq⟩ => ⟨d, slot, hd, hfresh, heq⟩⟩
  · rw [State.evaluateRegion_of_not_due h]
    exact ⟨[], List.nil_sublist _, .inl (by simp [keptWithout, State.setEntry])⟩

/-- A record that the due evaluation adds is the one of a due region. -/
theorem State.evaluateRegions_opened {l : List RegionId} (hl : l.Nodup) {s : State} {c : Capture}
    (hc : c ∈ (l.foldl State.evaluateRegion s).captures) : c ∈ s.captures ∨ (c.region ∈ l ∧ ∃ d, (s.entry c.region).DueFor d ∧
      c = openedCapture c.slot c.region (s.entry c.region).nextSeq s.framer.frameNumber d s.framer.depth.bpp) := by
  induction l generalizing s with
  | nil => exact .inl hc
  | cons r rest ih =>
    obtain ⟨hr, hrest⟩ := List.nodup_cons.mp hl
    rcases ih hrest hc with hin | ⟨hmem, d, hdue, heq⟩
    · obtain ⟨cs, -, hleft | ⟨d, slot, hdue, -, hopened⟩⟩ := s.evaluateRegion_captures r
      · rw [hleft] at hin
        exact .inl (List.mem_filter.mp hin).1
      · rw [hopened] at hin
        rcases List.mem_append.mp hin with hin | hin
        · exact .inl (List.mem_filter.mp hin).1
        · have hc' := List.mem_singleton.mp hin
          have hregion : c.region = r := by rw [hc']; rfl
          refine .inr ⟨by rw [hregion]; exact List.mem_cons_self, d, by rw [hregion]; exact hdue, ?_⟩
          rw [hregion, hc']
          rfl
    · have hne : c.region ≠ r := fun h => hr (h ▸ hmem)
      rw [s.evaluateRegion_entry_other hne] at hdue heq
      rw [s.evaluateRegion_framer] at heq
      exact .inr ⟨List.mem_cons_of_mem _ hmem, d, hdue, heq⟩

/-! ### O9 -/

/-- The entry of a region as a frame start finds it, after a pending commit. -/
theorem State.applyPending_entry (s : State) (r : RegionId) :
    s.applyPending.entry r = if s.table.commitPending then appliedEntry s.table.staged[r] (s.entry r) else s.entry r := by
  unfold State.applyPending
  split
  · exact s.applyCommit_entry r
  · rfl

/-- The frame start as it is numbered, before a pending commit is applied (R27). -/
def State.numberedFrame (s : State) : State :=
  { s with framer := { s.framer with
    fv := .high, state := .inFrame, frameNumber := s.framer.frameNumber + 1, linesDone := 0, pixelCount := 0 } }

theorem State.exec_frameStart_evaluates {s : State} (hstate : s.framer.state = .waiting) (hfv : s.framer.fv = .low)
    (hheight : 1 ≤ s.framer.height) (hnone : s.inHand = none) :
    exec .frameStart s = .next (allRegions.foldl State.evaluateRegion s.numberedFrame.applyPending) := by
  have hstart := State.takeFrameStart_waiting (s := s.setFv .high) hstate
  rw [State.exec_frameStart_waiting hnone hstate hfv (fun _ => hheight), hstart]
  rfl

/-- Settles O9: the due evaluation, region by region, of the state that the numbers and a pending commit leave. -/
theorem frameStartMovesPhaseAndSequence : Obligations.FrameStartMovesPhaseAndSequence := by
  intro s t hstate hfv hnone hheight ht before due
  have ht' := (Host.Outcome.next.inj ((State.exec_frameStart_evaluates hstate hfv hheight hnone).symm.trans ht)).symm
  have hentry : ∀ r, s.numberedFrame.applyPending.entry r = before r := fun r => State.applyPending_entry _ r
  have hcaptures := s.numberedFrame.applyPending_captures
  have hframer := s.numberedFrame.applyPending_framer
  generalize State.applyPending _ = a at ht' hentry hcaptures hframer
  have hafter : ∀ r, t.entry r = { (before r).evaluated with lost := (t.entry r).lost } := fun r => by
    rw [ht', ← hentry]
    exact State.evaluateRegions_entry allRegions_nodup (by rw [allRegions_eq_finRange]; exact List.mem_finRange r) a
  refine ⟨fun r d hd hr => ⟨fun hphase => ?_, fun hphase => ?_⟩, fun r hr => ?_, fun r d hdue => ?_, fun r hdue => ?_, fun r => ?_,
    fun c hc hnew => ?_⟩
  · rw [hafter, ActiveEntry.evaluated_of_armed hd hr, if_pos hphase]
    split <;> rfl
  · rw [hafter, ActiveEntry.evaluated_of_armed hd hr, if_neg hphase]
  · rw [hafter, ActiveEntry.evaluated_of_not_armed hr]
  · rw [hafter, ActiveEntry.DueFor.evaluated hdue]
  · rw [hafter, ActiveEntry.evaluated_of_not_due hdue]
  · rw [hafter]
    by_cases hdue : ∃ d, (before r).DueFor d
    · obtain ⟨d, hd⟩ := hdue
      rw [hd.evaluated]
      exact ⟨rfl, rfl, rfl, rfl⟩
    · rw [ActiveEntry.evaluated_of_not_due hdue]
      exact ⟨rfl, rfl, rfl, rfl⟩
  · rw [ht'] at hc
    rcases State.evaluateRegions_opened allRegions_nodup hc with hin | ⟨-, d, hdue, heq⟩
    · rw [hcaptures] at hin
      exact absurd hin hnew
    · rw [hentry] at hdue heq
      rw [hframer] at heq
      exact ⟨d, hdue, heq⟩

end Sys2Proof.Machine
end

section
/-! SUPPORT. A due region opens a capture, skips it or makes room for it (O10). -/

namespace Sys2Proof.Machine

/-! ### COMPLETE captures and free records under discards (R46, R84) -/

/-- Each discard of a COMPLETE capture of the region takes one from the count. -/
theorem State.RecordsDistinct.completeCount_discardAll {cs : List Capture} {s : State} (hs : s.RecordsDistinct) {r : RegionId}
    (hcs : ∀ c ∈ cs, c ∈ s.captures ∧ c.region = r ∧ c.fill = .complete) (hnodup : (cs.map Capture.slot).Nodup) :
    (cs.foldl State.discard s).completeCount r + cs.length = s.completeCount r := by
  induction cs generalizing s with
  | nil => rfl
  | cons c rest ih =>
    obtain ⟨hmem, hregion, hfill⟩ := hcs c List.mem_cons_self
    rw [List.map_cons, List.nodup_cons] at hnodup
    obtain ⟨hfresh, hnodup⟩ := hnodup
    have hone : (s.discard c).completeCount r + 1 = s.completeCount r := by
      obtain ⟨before, after, hsplit, -, -, hdrop⟩ := hs.split hmem
      have hcaptures : (s.discard c).captures = before ++ after := hdrop
      rw [State.completeCount, State.completeCount, State.captureList, State.captureList, hcaptures, hsplit]
      simp [hregion, hfill]
      omega
    have hrest := ih (s := s.discard c) (hs.freeCapture c) (fun x hx => ?_) hnodup
    · rw [List.foldl_cons, List.length_cons, ← hone, ← hrest]
      omega
    · obtain ⟨hxmem, hx'⟩ := hcs x (List.mem_cons_of_mem _ hx)
      refine ⟨List.mem_filter.mpr ⟨hxmem, decide_eq_true fun heq => hfresh ?_⟩, hx'⟩
      exact heq ▸ List.mem_map_of_mem hx

/-- After `j` discards of candidates the count is `j` lower. -/
theorem State.RecordsDistinct.completeCount_take {s : State} (hs : s.RecordsDistinct) (r : RegionId) {j : Nat}
    (hj : j ≤ (s.candidates r).length) :
    (((s.candidates r).take j).foldl State.discard s).completeCount r + j = s.completeCount r := by
  have hsub : ((s.candidates r).take j).Sublist s.captures := by
    rw [State.candidates_eq]
    exact (List.take_sublist _ _).trans List.filter_sublist
  have h := hs.completeCount_discardAll (cs := (s.candidates r).take j) (r := r) (fun c hc => ?_) (hs.1.sublist (hsub.map _))
  · rwa [List.length_take_of_le hj] at h
  · obtain ⟨hmem, hregion, hfill, -⟩ := State.mem_candidates.mp (List.mem_of_mem_take hc)
    exact ⟨hmem, hregion, hfill⟩

/-- The number of a discarded record is free. -/
theorem State.RecordsDistinct.freeRecords_discardAll {s : State} (hs : s.RecordsDistinct) {c : Capture} (hc : c ∈ s.captures) {cs : List Capture}
    (hin : c ∈ cs) : (cs.foldl State.discard s).freeRecords ≠ [] := by
  refine List.ne_nil_of_mem (a := c.slot) (State.mem_freeRecords.mpr ⟨hs.2 c hc, fun x hx heq => ?_⟩)
  rw [State.captures_discardAll] at hx
  exact of_decide_eq_true (List.mem_filter.mp hx).2 (heq ▸ List.mem_map_of_mem hin)

theorem State.framer_discardAll (cs : List Capture) (s : State) : (cs.foldl State.discard s).framer = s.framer := by
  induction cs generalizing s with
  | nil => rfl
  | cons c rest ih => exact ih (s.discard c)

/-! ### The depth step and the record step (R46 to R50) -/

theorem State.openRecord_of_none {u : State} (h : u.freeRecords = []) (r : RegionId) (d : RegionDef) (seq : Half) :
    u.openRecord r d seq = u.chargeLoss r .noRecord := by
  rw [State.openRecord, h]

theorem State.openRecord_of_free {u : State} (h : u.freeRecords ≠ []) (r : RegionId) (d : RegionDef) (seq : Half) {framer : Framer}
    (hframer : u.framer = framer) : ∃ slot ∈ u.freeRecords, u.openRecord r d seq =
      { u with captures := u.captures ++ [openedCapture slot r seq framer.frameNumber d framer.depth.bpp] } := by
  obtain ⟨slot, rest, hfree⟩ := List.exists_cons_of_ne_nil h
  refine ⟨slot, by rw [hfree]; exact List.mem_cons_self, ?_⟩
  rw [State.openRecord, hfree, ← hframer]

section
variable {n : State} {r : RegionId} {d : RegionDef} (seq : Half)

theorem State.openWith_below (h : n.completeCount r < d.depth) : n.openWith r d seq = n.openRecord r d seq := by
  have hroom : (if d.policy = .keepNew then State.makeRoom r d.depth (n.candidates r) n else n) = n := by
    split
    · cases n.candidates r with
      | nil => rfl
      | cons c rest => exact if_pos h
    · rfl
  unfold State.openWith
  dsimp only
  rw [hroom, if_pos h]

theorem State.openWith_keepOld (hold : d.policy = .keepOld) (h : d.depth ≤ n.completeCount r) :
    n.openWith r d seq = n.chargeLoss r .depth := by
  have hroom : (if d.policy = .keepNew then State.makeRoom r d.depth (n.candidates r) n else n) = n := if_neg (by rw [hold]; decide)
  unfold State.openWith
  dsimp only
  rw [hroom, if_neg (Nat.not_lt.mpr h)]

/-- KEEP_NEW discards candidates down to below the depth, or all of them (R48). -/
theorem State.RecordsDistinct.makeRoom_eq (hn : n.RecordsDistinct) (h : d.depth ≤ n.completeCount r) :
    State.makeRoom r d.depth (n.candidates r) n =
      ((n.candidates r).take (min (n.candidates r).length (n.completeCount r + 1 - d.depth))).foldl State.discard n := by
  obtain ⟨k, hk, hbefore, hend, heq⟩ := n.makeRoom_spec r d.depth (n.candidates r)
  have hcount := hn.completeCount_take r hk
  have hle : k ≤ n.completeCount r + 1 - d.depth := by
    rcases Nat.eq_zero_or_pos k with rfl | hpos
    · exact Nat.zero_le _
    · have hlast := hbefore (k - 1) (by omega)
      have hcount' := hn.completeCount_take r (j := k - 1) (by omega)
      omega
  have hmin : k = min (n.candidates r).length (n.completeCount r + 1 - d.depth) := by omega
  rw [heq, ← hmin]

/-- The state after the discards that KEEP_NEW makes is judged again. -/
theorem State.RecordsDistinct.openWith_keepNew (hn : n.RecordsDistinct) (hnew : d.policy = .keepNew) (h : d.depth ≤ n.completeCount r)
    {k : Nat} (hk : k = min (n.candidates r).length (n.completeCount r + 1 - d.depth)) {roomy : State}
    (hroomy : roomy = ((n.candidates r).take k).foldl State.discard n) : n.openWith r d seq =
      if n.completeCount r - k < d.depth then roomy.openRecord r d seq else roomy.chargeLoss r .depth := by
  have hroom : (if d.policy = .keepNew then State.makeRoom r d.depth (n.candidates r) n else n) = roomy := by
    rw [if_pos hnew, hn.makeRoom_eq h, ← hk, hroomy]
  have hcount : roomy.completeCount r + k = n.completeCount r := by
    rw [hroomy]
    exact hn.completeCount_take r (hk ▸ Nat.min_le_left _ _)
  have hleft : roomy.completeCount r = n.completeCount r - k := by omega
  unfold State.openWith
  dsimp only
  rw [hroom, hleft]

end

/-! ### Free records and lists under the evaluation of other regions -/

/-- The due evaluation of a region takes one free record at most. -/
theorem State.freeRecords_evaluateRegion (s : State) (r : RegionId) : s.freeRecords.length ≤ (s.evaluateRegion r).freeRecords.length + 1 := by
  have hadds : ∃ n, ∀ x ∈ (s.evaluateRegion r).captures, x ∈ s.captures ∨ x.slot = n := by
    obtain ⟨cs, -, heq | ⟨d, slot, -, -, heq⟩⟩ := s.evaluateRegion_captures r
    · exact ⟨0, fun x hx => .inl (List.mem_filter.mp (heq ▸ hx)).1⟩
    · refine ⟨slot, fun x hx => ?_⟩
      rw [heq] at hx
      rcases List.mem_append.mp hx with hx | hx
      · exact .inl (List.mem_filter.mp hx).1
      · exact .inr (by rw [List.mem_singleton.mp hx]; rfl)
  obtain ⟨n, hn⟩ := hadds
  have hnodup : (s.freeRecords.erase n).Nodup := (List.nodup_range.filter _).erase n
  have hsub : s.freeRecords.erase n ⊆ (s.evaluateRegion r).freeRecords := fun m hm => by
    have hfree := State.mem_freeRecords.mp (List.mem_of_mem_erase hm)
    have hne : m ≠ n := fun h => (List.nodup_range.filter _ : s.freeRecords.Nodup).not_mem_erase (h ▸ hm)
    exact State.mem_freeRecords.mpr ⟨hfree.1, fun x hx => (hn x hx).elim (hfree.2 x) fun h heq => hne (heq.symm.trans h)⟩
  have hlength := (hnodup.subperm hsub).length_le
  have herase := List.le_length_erase (a := n) (l := s.freeRecords)
  omega

theorem State.freeRecords_evaluateRegions (l : List RegionId) (s : State) :
    s.freeRecords.length ≤ (l.foldl State.evaluateRegion s).freeRecords.length + l.length := by
  induction l generalizing s with
  | nil => exact Nat.le_refl _
  | cons r rest ih =>
    have hfirst := s.freeRecords_evaluateRegion r
    have hrest := ih (s.evaluateRegion r)
    rw [List.foldl_cons, List.length_cons]
    omega

theorem captureList_keptWithout (cs l : List Capture) (x : RegionId) :
    ((keptWithout cs l).filter (fun c => c.region = x)).Sublist (l.filter (fun c => c.region = x)) :=
  List.filter_sublist.filter _

/-- The due evaluation of another region adds nothing to a region's list. -/
theorem State.captureList_evaluateRegion (s : State) {r x : RegionId} (hx : x ≠ r) :
    ((s.evaluateRegion r).captureList x).Sublist (s.captureList x) := by
  obtain ⟨cs, -, heq | ⟨d, slot, -, -, heq⟩⟩ := s.evaluateRegion_captures r
  · rw [State.captureList, heq]
    exact captureList_keptWithout _ _ _
  · have hother : (openedCapture slot r (s.entry r).nextSeq s.framer.frameNumber d s.framer.depth.bpp).region ≠ x := Ne.symm hx
    rw [State.captureList, heq, List.filter_append, List.filter_cons_of_neg (by simpa using hother), List.filter_nil, List.append_nil]
    exact captureList_keptWithout _ _ _

theorem State.captureList_evaluateRegions {l : List RegionId} {x : RegionId} (hx : x ∉ l) (s : State) :
    ((l.foldl State.evaluateRegion s).captureList x).Sublist (s.captureList x) := by
  induction l generalizing s with
  | nil => exact .refl _
  | cons r rest ih =>
    rw [List.mem_cons, not_or] at hx
    obtain ⟨hne, hrest⟩ := hx
    exact (ih hrest (s.evaluateRegion r)).trans (s.captureList_evaluateRegion hne)

theorem State.framer_evaluateRegions (l : List RegionId) (s : State) : (l.foldl State.evaluateRegion s).framer = s.framer := by
  induction l generalizing s with
  | nil => rfl
  | cons r rest ih => exact (ih (s.evaluateRegion r)).trans (s.evaluateRegion_framer r)

/-- The open capture `c` stands last in its list, behind captures of `l`, and its number is no other record's. -/
structure State.OpensLast (s : State) (c : Capture) (l : List Capture) : Prop where
  last : ∃ front, s.captureList c.region = front ++ [c] ∧ front.Sublist l
  alone : ∀ x ∈ s.captures, x.slot = c.slot → x = c
  filling : c.fill = .filling

/-- The due evaluation of another region leaves it there. -/
theorem State.OpensLast.evaluateRegion {s : State} {c : Capture} {l : List Capture} (h : s.OpensLast c l) {r : RegionId} (hr : c.region ≠ r) :
    (s.evaluateRegion r).OpensLast c l := by
  obtain ⟨⟨front, hlist, hfront⟩, halone, hfill⟩ := h
  have hmem : c ∈ s.captures := by
    have hin : c ∈ s.captureList c.region := by
      rw [hlist]
      exact List.mem_append_right _ (List.mem_singleton_self c)
    exact (List.mem_filter.mp hin).1
  obtain ⟨cs, hsub, hcases⟩ := s.evaluateRegion_captures r
  have hstays : c.slot ∉ cs.map Capture.slot := fun hin => by
    obtain ⟨y, hy, hslot⟩ := List.mem_map.mp hin
    obtain ⟨hymem, -, hcomplete, -⟩ := State.mem_candidates.mp (hsub.subset hy)
    rw [halone y hymem hslot, hfill] at hcomplete
    cases hcomplete
  have hkept : (keptWithout cs s.captures).filter (fun x => x.region = c.region) = keptWithout cs front ++ [c] := by
    have hcomm : (keptWithout cs s.captures).filter (fun x => x.region = c.region) = keptWithout cs (s.captureList c.region) := by
      rw [keptWithout, keptWithout, State.captureList, List.filter_filter, List.filter_filter]
      exact List.filter_congr fun x _ => Bool.and_comm _ _
    have hself : keptWithout cs [c] = [c] := List.filter_cons_of_pos (decide_eq_true hstays)
    rw [hcomm, hlist, keptWithout, List.filter_append]
    exact congrArg (keptWithout cs front ++ ·) hself
  have hfront' : (keptWithout cs front).Sublist l := List.filter_sublist.trans hfront
  rcases hcases with heq | ⟨d, slot, -, hfresh, heq⟩
  · refine ⟨⟨_, by rw [State.captureList, heq, hkept], hfront'⟩, fun x hx => ?_, hfill⟩
    rw [heq] at hx
    exact halone x (List.mem_filter.mp hx).1
  · have hother : (openedCapture slot r (s.entry r).nextSeq s.framer.frameNumber d s.framer.depth.bpp).region ≠ c.region := Ne.symm hr
    refine ⟨⟨_, ?_, hfront'⟩, fun x hx => ?_, hfill⟩
    · rw [State.captureList, heq, List.filter_append, List.filter_cons_of_neg (by simpa using hother), List.filter_nil, List.append_nil, hkept]
    · rw [heq] at hx
      rcases List.mem_append.mp hx with hx | hx
      · exact halone x (List.mem_filter.mp hx).1
      · rw [List.mem_singleton.mp hx]
        exact fun hslot => absurd hslot.symm (hfresh c (List.mem_filter.mpr ⟨hmem, decide_eq_true hstays⟩))

theorem State.OpensLast.evaluateRegions {rs : List RegionId} {s : State} {c : Capture} {l : List Capture} (h : s.OpensLast c l)
    (hrs : c.region ∉ rs) : (rs.foldl State.evaluateRegion s).OpensLast c l := by
  induction rs generalizing s with
  | nil => exact h
  | cons r rest ih =>
    rw [List.mem_cons, not_or] at hrs
    obtain ⟨hne, hrest⟩ := hrs
    exact ih (h.evaluateRegion hne) hrest

/-- A due region below its depth opens its capture where a free record is left for it. -/
theorem State.opensLast_of_due {s : State} {r : RegionId} {d : RegionDef} (hdue : (s.entry r).DueFor d) (hbelow : s.completeCount r < d.depth)
    (hfree : s.freeRecords ≠ []) : ∃ slot,
      (s.evaluateRegion r).OpensLast (openedCapture slot r (s.entry r).nextSeq s.framer.frameNumber d s.framer.depth.bpp) (s.captureList r) := by
  have hopens : (s.setEntry r (s.entry r).evaluated).freeRecords ≠ [] := hfree
  obtain ⟨slot, hslot, heq⟩ := State.openRecord_of_free hopens r d (s.entry r).nextSeq (framer := s.framer) rfl
  have hcaptures : (s.evaluateRegion r).captures =
      s.captures ++ [openedCapture slot r (s.entry r).nextSeq s.framer.frameNumber d s.framer.depth.bpp] := by
    rw [State.evaluateRegion_of_due hdue, State.openWith_below (n := s.setEntry r (s.entry r).evaluated) _ hbelow, heq]
    rfl
  refine ⟨slot, ⟨⟨s.captureList r, ?_, .refl _⟩, fun x hx hx' => ?_, rfl⟩⟩
  · rw [State.captureList, hcaptures, List.filter_append]
    exact congrArg (s.captureList r ++ ·) (List.filter_cons_of_pos (decide_eq_true rfl))
  · rw [hcaptures] at hx
    rcases List.mem_append.mp hx with hx | hx
    · exact absurd hx' ((State.mem_freeRecords.mp hslot).2 x hx)
    · exact List.mem_singleton.mp hx

/-- At a frame start with a free record for every region, a due region below its depth has its open capture afterwards. -/
theorem State.opensLast_evaluateRegions {s : State} {r : RegionId} {d : RegionDef} (hdue : (s.entry r).DueFor d)
    (hbelow : s.completeCount r < d.depth) (hfree : 16 ≤ s.freeRecords.length) : ∃ slot,
      (allRegions.foldl State.evaluateRegion s).OpensLast
        (openedCapture slot r (s.entry r).nextSeq s.framer.frameNumber d s.framer.depth.bpp) (s.captureList r) := by
  have hin : r ∈ allRegions := by
    rw [allRegions_eq_finRange]
    exact List.mem_finRange r
  obtain ⟨front, back, hsplit⟩ := List.append_of_mem hin
  have hnodup := allRegions_nodup
  have hcount : allRegions.length = 16 := rfl
  rw [hsplit, List.nodup_middle, List.nodup_cons, List.mem_append, not_or] at hnodup
  obtain ⟨⟨hfront, hback⟩, -⟩ := hnodup
  rw [hsplit, List.length_append, List.length_cons] at hcount
  have hentry := State.evaluateRegions_entry_other hfront s
  have hlist := State.captureList_evaluateRegions hfront s
  have hleft := State.freeRecords_evaluateRegions front s
  have hframer := State.framer_evaluateRegions front s
  rw [hsplit, List.foldl_append, List.foldl_cons]
  generalize front.foldl State.evaluateRegion s = u at hentry hlist hleft hframer
  have hdue' : (u.entry r).DueFor d := by rw [hentry]; exact hdue
  have hbelow' : u.completeCount r < d.depth := Nat.lt_of_le_of_lt (hlist.filter _).length_le hbelow
  have hseq : (u.entry r).nextSeq = (s.entry r).nextSeq := by rw [hentry]
  obtain ⟨slot, hopens⟩ := State.opensLast_of_due hdue' hbelow' (List.ne_nil_of_length_pos (by omega))
  obtain ⟨⟨before, hlast, hbefore⟩, halone, hfill⟩ := hopens.evaluateRegions hback
  rw [hseq, hframer] at hlast halone
  exact ⟨slot, ⟨before, hlast, hbefore.trans hlist⟩, halone, hfill⟩

/-! ### O10 -/

/-- Behind captures of which none is FILLING, the capture that stands last is the region's open capture. -/
theorem State.OpensLast.openCapture {s : State} {c : Capture} {l : List Capture} (h : s.OpensLast c l) (hl : ∀ x ∈ l, x.fill ≠ .filling) :
    s.openCapture c.region = some c := by
  obtain ⟨⟨front, hlist, hfront⟩, -, hfill⟩ := h
  have hnone : front.find? (fun x => x.fill = .filling) = none :=
    List.find?_eq_none.mpr fun x hx => by simpa using hl x (hfront.subset hx)
  rw [State.openCapture, hlist, List.find?_append, hnone, Option.none_or]
  exact List.find?_cons_of_pos (decide_eq_true hfill)

/-- Settles O10: the depth step on the state in which the sequence number is consumed, and the due evaluation of the other regions, which
leaves the region's new capture. -/
theorem dueRegionOpensSkipsOrDiscards : Obligations.DueRegionOpensSkipsOrDiscards := by
  refine ⟨fun s r d hstate hfv hheight hnone hpending hd hr hphase hcount hbelow hfree => ?_, fun s r d hs hd hr hphase hcount => ?_⟩
  · have hstart := State.exec_frameStart_evaluates hstate hfv hheight hnone
    have happlied : s.numberedFrame.applyPending = s.numberedFrame := if_neg (by rw [State.numberedFrame, hpending]; decide)
    rw [happlied] at hstart
    obtain ⟨slot, hopens⟩ :=
      State.opensLast_evaluateRegions (s := s.numberedFrame) (r := r) (d := d) ⟨hd, hr, hphase, hcount⟩ hbelow hfree
    obtain ⟨front, hlast, -⟩ := hopens.last
    exact ⟨_, _, hstart, (congrArg List.getLast? hlast).trans List.getLast?_concat, rfl, rfl, rfl, rfl, rfl, rfl, hopens.openCapture⟩
  · intro seq numbered opensFrom k roomy
    have hdue : (s.entry r).DueFor d := ⟨hd, hr, hphase, hcount⟩
    have heval : s.evaluateRegion r = numbered.openWith r d seq := by
      rw [State.evaluateRegion_of_due hdue, hdue.evaluated]
    have hnumbered : numbered.RecordsDistinct := hs
    have hopens {u : State} (hframer : u.framer = s.framer) (hfree : u.freeRecords ≠ []) (heq : s.evaluateRegion r = u.openRecord r d seq) :
        opensFrom u := by
      obtain ⟨slot, hslot, hopened⟩ := State.openRecord_of_free hfree r d seq hframer
      exact ⟨slot, hslot, heq.trans hopened⟩
    refine ⟨fun hbelow hfree => ?_, fun hbelow hfree => ?_, fun hfull hold => ?_, fun hnew hfull hroom => ?_, fun hnew hroom => ?_⟩
    · rw [heval, State.openWith_below (n := numbered) _ hbelow, State.openRecord_of_none (u := numbered) hfree]
    · exact hopens rfl hfree (heval.trans (State.openWith_below (n := numbered) _ hbelow))
    · rw [heval, State.openWith_keepOld (n := numbered) _ hold hfull]
    · have hjudged := (hnumbered.openWith_keepNew seq hnew hfull (k := k) rfl (roomy := roomy) rfl).trans (if_pos hroom)
      have hsome : (s.candidates r).take k ≠ [] := List.ne_nil_of_length_pos (by rw [List.length_take]; omega)
      obtain ⟨c, hc⟩ := List.exists_mem_of_ne_nil _ hsome
      have hmem := (State.mem_candidates.mp (List.mem_of_mem_take hc)).1
      exact hopens (State.framer_discardAll _ _) (hnumbered.freeRecords_discardAll hmem hc) (heval.trans hjudged)
    · have hfull : d.depth ≤ numbered.completeCount r := hroom.trans (Nat.sub_le _ _)
      have hjudged := (hnumbered.openWith_keepNew seq hnew hfull (k := k) rfl (roomy := roomy) rfl).trans (if_neg (Nat.not_lt.mpr hroom))
      exact heval.trans hjudged

end Sys2Proof.Machine
end

section
/-! SUPPORT. The layout of the reply to STATUS (O33). -/

namespace Sys2Proof.Machine

/-! ### Numbers in a layout -/

theorem byteAt_append_left {front : List Byte} (rest : List Byte) {i : Nat} (h : i < front.length) :
    byteAt (front ++ rest) i = byteAt front i := by
  rw [byteAt, byteAt, List.getD_append _ _ _ _ h]

theorem nat1_append_right (front rest : List Byte) (i : Nat) : nat1 (front ++ rest) (front.length + i) = nat1 rest i := by
  rw [nat1, nat1, byteAt_append_right]

/-- A number laid out in one byte is read back modulo 256. -/
theorem nat1_of_put1_mod {p : List Byte} {i n : Nat} (h : byteAt p i = BitVec.ofNat 8 n) : nat1 p i = n % 256 := by
  rw [nat1, h, BitVec.toNat_ofNat]

/-- A number laid out in four bytes is read back modulo 4294967296. -/
theorem nat4_of_put4_mod {p : List Byte} {i n : Nat} (h0 : byteAt p i = BitVec.ofNat 8 n) (h1 : byteAt p (i + 1) = BitVec.ofNat 8 (n / 256))
    (h2 : byteAt p (i + 2) = BitVec.ofNat 8 (n / 65536)) (h3 : byteAt p (i + 3) = BitVec.ofNat 8 (n / 65536 / 256)) :
    nat4 p i = n % 4294967296 := by
  rw [nat4, nat2_of_put2_mod h0 h1, nat2_of_put2_mod h2 h3]
  omega

/-- In a table of entries of `n` bytes, byte `j` of entry `k` stands at offset `n * k + j`. -/
theorem byteAt_flatMap {α : Type} {f : α → List Byte} {n : Nat} (hn : ∀ x, (f x).length = n) {l : List α} {k : Nat} {a : α}
    (hk : l[k]? = some a) {j : Nat} (hj : j < n) : byteAt (l.flatMap f) (n * k + j) = byteAt (f a) j := by
  induction l generalizing k with
  | nil => simp at hk
  | cons x rest ih =>
    rw [List.flatMap_cons]
    cases k with
    | zero =>
      obtain rfl : x = a := by simpa using hk
      rw [Nat.mul_zero, Nat.zero_add, byteAt_append_left _ (by rw [hn]; exact hj)]
    | succ k =>
      have hoffset : n * (k + 1) + j = (f x).length + (n * k + j) := by rw [hn, Nat.mul_succ]; omega
      rw [hoffset, byteAt_append_right]
      exact ih (by simpa using hk)

/-! ### STATUS (O33) -/

/-- The bytes of the reply to STATUS before the notice settings, one by one. -/
def State.statusFront (s : State) : List Byte :=
  [0x00, framerCode s.framer.state, if s.framer.stopPending then 1 else 0, if s.table.commitPending then 1 else 0,
    BitVec.ofNat 8 s.framer.frameNumber.toNat, BitVec.ofNat 8 (s.framer.frameNumber.toNat / 256),
    BitVec.ofNat 8 (s.framer.frameNumber.toNat / 65536), BitVec.ofNat 8 (s.framer.frameNumber.toNat / 65536 / 256),
    BitVec.ofNat 8 s.framer.width, BitVec.ofNat 8 (s.framer.width / 256),
    BitVec.ofNat 8 s.framer.height, BitVec.ofNat 8 (s.framer.height / 256), depthCode s.framer.depth,
    BitVec.ofNat 8 s.framer.errors.lineLong.toNat, BitVec.ofNat 8 (s.framer.errors.lineLong.toNat / 256),
    BitVec.ofNat 8 s.framer.errors.lineShort.toNat, BitVec.ofNat 8 (s.framer.errors.lineShort.toNat / 256),
    BitVec.ofNat 8 s.framer.errors.frameLong.toNat, BitVec.ofNat 8 (s.framer.errors.frameLong.toNat / 256),
    BitVec.ofNat 8 s.framer.errors.frameShort.toNat, BitVec.ofNat 8 (s.framer.errors.frameShort.toNat / 256),
    BitVec.ofNat 8 s.framer.errors.strayLine.toNat, BitVec.ofNat 8 (s.framer.errors.strayLine.toNat / 256),
    drainStateCode s.drainA.state, drainStateCode s.drainB.state,
    BitVec.ofNat 8 s.link.receiveDiscards.toNat, BitVec.ofNat 8 (s.link.receiveDiscards.toNat / 256),
    BitVec.ofNat 8 s.link.overruns.toNat, BitVec.ofNat 8 (s.link.overruns.toNat / 256), BitVec.ofNat 8 s.link.rate.toNat]

theorem State.replyOk_statusItems (s : State) : replyOk s.statusItems =
    s.statusFront ++ (s.link.mask.toList.map settingCode ++ put1 s.link.notices.length) := by
  simp [replyOk, State.statusItems, putFlag_eq, State.statusFront, put1, put2, put4]

/-- The settings of the notices, one byte each. -/
theorem byteAt_settings (mask : Vector NoticeSetting 7) (rest : List Byte) (k : Fin 7) :
    byteAt (mask.toList.map settingCode ++ rest) k.val = settingCode mask[k] := by
  rw [byteAt_append_left _ (by simp), byteAt]
  simp

/-- A 2-byte item that is a 16-bit field is read back. -/
theorem nat2_of_half {p : List Byte} {i : Nat} (n : Half) (h0 : byteAt p i = BitVec.ofNat 8 n.toNat)
    (h1 : byteAt p (i + 1) = BitVec.ofNat 8 (n.toNat / 256)) : nat2 p i = n.toNat :=
  nat2_of_put2 h0 h1 n.isLt

theorem State.length_statusFront (s : State) : s.statusFront.length = 30 := rfl

theorem State.statusItems_settings (s : State) (k : Fin 7) :
    byteAt (replyOk s.statusItems) (30 + k.val) = settingCode s.link.mask[k] := by
  have hoffset := byteAt_append_right s.statusFront (s.link.mask.toList.map settingCode ++ put1 s.link.notices.length) k.val
  rw [s.length_statusFront] at hoffset
  rw [s.replyOk_statusItems, hoffset, byteAt_settings]

theorem State.statusItems_notices (s : State) : nat1 (replyOk s.statusItems) 37 = s.link.notices.length % 256 := by
  have hlength : (s.statusFront ++ s.link.mask.toList.map settingCode).length = 37 := by
    rw [List.length_append, List.length_map, Vector.length_toList, s.length_statusFront]
  have hlast := nat1_append_right (s.statusFront ++ s.link.mask.toList.map settingCode) (put1 s.link.notices.length) 0
  rw [hlength, Nat.add_zero] at hlast
  rw [s.replyOk_statusItems, ← List.append_assoc, hlast]
  exact nat1_of_put1_mod rfl

theorem State.length_replyOk_statusItems (s : State) : (replyOk s.statusItems).length = 38 := by
  rw [s.replyOk_statusItems, List.length_append, List.length_append, List.length_map, Vector.length_toList, s.length_statusFront]
  rfl

/-- The items of the front are those of the reply. -/
theorem State.byteAt_statusItems (s : State) {i : Nat} (hi : i < 30) : byteAt (replyOk s.statusItems) i = byteAt s.statusFront i := by
  rw [s.replyOk_statusItems]
  exact byteAt_append_left _ hi

theorem State.nat2_statusItems (s : State) {i : Nat} (hi : i + 1 < 30) : nat2 (replyOk s.statusItems) i = nat2 s.statusFront i := by
  rw [nat2, nat2, nat1, nat1, nat1, nat1, s.byteAt_statusItems hi, s.byteAt_statusItems (Nat.lt_of_succ_lt hi)]

theorem State.half_statusItems (s : State) {i : Nat} {n : Half} (hi : i + 1 < 30) (h0 : byteAt s.statusFront i = BitVec.ofNat 8 n.toNat)
    (h1 : byteAt s.statusFront (i + 1) = BitVec.ofNat 8 (n.toNat / 256)) : nat2 (replyOk s.statusItems) i = n.toNat :=
  (s.nat2_statusItems hi).trans (nat2_of_half n h0 h1)

theorem State.put2_statusItems (s : State) {i n : Nat} (hi : i + 1 < 30) (h0 : byteAt s.statusFront i = BitVec.ofNat 8 n)
    (h1 : byteAt s.statusFront (i + 1) = BitVec.ofNat 8 (n / 256)) : nat2 (replyOk s.statusItems) i = n % 65536 :=
  (s.nat2_statusItems hi).trans (nat2_of_put2_mod h0 h1)

/-- Settles O33: the items stand at fixed offsets of the reply. -/
theorem statusReplyCarriesEveryItem : Obligations.StatusReplyCarriesEveryItem := by
  intro s q hq
  refine ⟨replyOk s.statusItems, hq.exec_eq rfl rfl rfl, s.length_replyOk_statusItems, rfl, ?state, s.byteAt_statusItems (by decide),
    s.byteAt_statusItems (by decide), ?frame, s.put2_statusItems (by decide) rfl rfl, s.put2_statusItems (by decide) rfl rfl, ?depth,
    s.half_statusItems (by decide) rfl rfl, s.half_statusItems (by decide) rfl rfl, s.half_statusItems (by decide) rfl rfl,
    s.half_statusItems (by decide) rfl rfl, s.half_statusItems (by decide) rfl rfl, ⟨?drainA, ?drainB⟩,
    s.half_statusItems (by decide) rfl rfl, s.half_statusItems (by decide) rfl rfl, ?rate, fun k => ?settings, s.statusItems_notices⟩
  case state =>
    rw [s.byteAt_statusItems (by decide)]
    change framerCode s.framer.state = _
    cases s.framer.state <;> rfl
  case frame =>
    rw [nat4, s.nat2_statusItems (by decide), s.nat2_statusItems (by decide)]
    exact (nat4_of_put4_mod (p := s.statusFront) (i := 4) rfl rfl rfl rfl).trans (Nat.mod_eq_of_lt s.framer.frameNumber.isLt)
  case depth =>
    rw [nat1, s.byteAt_statusItems (by decide)]
    change (depthCode s.framer.depth).toNat = _
    cases s.framer.depth <;> rfl
  case drainA =>
    rw [s.byteAt_statusItems (by decide)]
    change drainStateCode s.drainA.state = _
    cases s.drainA.state <;> rfl
  case drainB =>
    rw [s.byteAt_statusItems (by decide)]
    change drainStateCode s.drainB.state = _
    cases s.drainB.state <;> rfl
  case rate =>
    have hlt := s.link.rate.isLt
    rw [nat1, s.byteAt_statusItems (by decide)]
    exact nat1_of_put1 (p := s.statusFront) (i := 29) rfl (by omega)
  case settings =>
    rw [s.statusItems_settings k]
    cases s.link.mask[k] <;> rfl

end Sys2Proof.Machine
end

section
/-! SUPPORT. The layouts of the replies to REGION_STATUS and DRAIN_STATUS (O34). -/

namespace Sys2Proof.Machine

/-! ### REGION_STATUS (R157, R162) -/

/-- The bytes of the reply to REGION_STATUS before the fetched capture, one by one. -/
def State.regionFront (s : State) (r : RegionId) : List Byte :=
  [0x00, BitVec.ofNat 8 r.val, runCode (s.entry r).run, BitVec.ofNat 8 (s.entry r).phase,
    BitVec.ofNat 8 (s.entry r).remaining.toNat, BitVec.ofNat 8 ((s.entry r).remaining.toNat / 256),
    BitVec.ofNat 8 (s.entry r).completed.toNat, BitVec.ofNat 8 ((s.entry r).completed.toNat / 256),
    BitVec.ofNat 8 (s.entry r).nextSeq.toNat, BitVec.ofNat 8 ((s.entry r).nextSeq.toNat / 256),
    BitVec.ofNat 8 (s.entry r).lost.toNat, BitVec.ofNat 8 ((s.entry r).lost.toNat / 256),
    BitVec.ofNat 8 (s.held r), BitVec.ofNat 8 (s.held r / 256), BitVec.ofNat 8 (s.unmet r), BitVec.ofNat 8 (s.unmet r / 256),
    if s.linkServed r then 1 else 0]

/-- The list of the captures with its length. -/
def State.regionList (s : State) (r : RegionId) : List Byte :=
  put1 (s.captureList r).length ++ (s.captureList r).flatMap Capture.statusEntry

theorem State.replyOk_regionStatusItems (s : State) (r : RegionId) : replyOk (s.regionStatusItems r) =
    s.regionFront r ++ (putFetched (s.fetched r) ++ s.regionList r) := by
  simp [replyOk, State.regionStatusItems, putFlag_eq, State.regionFront, State.regionList, put1, put2]

theorem length_putFetched (o : Option Capture) : (putFetched o).length = 3 := by
  cases o <;> rfl

theorem length_statusEntries (l : List Capture) : (l.flatMap Capture.statusEntry).length = 4 * l.length := by
  induction l with
  | nil => rfl
  | cons c rest ih =>
    rw [List.flatMap_cons, List.length_append, ih, List.length_cons, Nat.mul_succ, Nat.add_comm]
    rfl

section
variable (s : State) (r : RegionId)

theorem State.length_regionStatus : (replyOk (s.regionStatusItems r)).length = 21 + 4 * (s.captureList r).length := by
  have hfront : (s.regionFront r).length = 17 := rfl
  rw [s.replyOk_regionStatusItems, List.length_append, List.length_append, length_putFetched, State.regionList, List.length_append,
    length_statusEntries, hfront, length_put1]
  omega

theorem State.byteAt_regionStatus {i : Nat} (hi : i < 17) : byteAt (replyOk (s.regionStatusItems r)) i = byteAt (s.regionFront r) i := by
  rw [s.replyOk_regionStatusItems]
  exact byteAt_append_left _ hi

theorem State.nat2_regionStatus {i : Nat} (hi : i + 1 < 17) : nat2 (replyOk (s.regionStatusItems r)) i = nat2 (s.regionFront r) i := by
  rw [nat2, nat2, nat1, nat1, nat1, nat1, s.byteAt_regionStatus r hi, s.byteAt_regionStatus r (Nat.lt_of_succ_lt hi)]

theorem State.half_regionStatus {i : Nat} {n : Half} (hi : i + 1 < 17) (h0 : byteAt (s.regionFront r) i = BitVec.ofNat 8 n.toNat)
    (h1 : byteAt (s.regionFront r) (i + 1) = BitVec.ofNat 8 (n.toNat / 256)) : nat2 (replyOk (s.regionStatusItems r)) i = n.toNat :=
  (s.nat2_regionStatus r hi).trans (nat2_of_half n h0 h1)

theorem State.put2_regionStatus {i n : Nat} (hi : i + 1 < 17) (h0 : byteAt (s.regionFront r) i = BitVec.ofNat 8 n)
    (h1 : byteAt (s.regionFront r) (i + 1) = BitVec.ofNat 8 (n / 256)) : nat2 (replyOk (s.regionStatusItems r)) i = n % 65536 :=
  (s.nat2_regionStatus r hi).trans (nat2_of_put2_mod h0 h1)

/-- What follows the front stands at offset 17. -/
theorem State.byteAt_regionStatus_rest (j : Nat) :
    byteAt (replyOk (s.regionStatusItems r)) (17 + j) = byteAt (putFetched (s.fetched r) ++ s.regionList r) j := by
  rw [s.replyOk_regionStatusItems]
  exact byteAt_append_right (s.regionFront r) _ j

/-- The list stands at offset 20. -/
theorem State.byteAt_regionStatus_list (j : Nat) : byteAt (replyOk (s.regionStatusItems r)) (20 + j) = byteAt (s.regionList r) j := by
  have hrest := byteAt_append_right (putFetched (s.fetched r)) (s.regionList r) j
  rw [length_putFetched, ← s.byteAt_regionStatus_rest r, ← Nat.add_assoc] at hrest
  exact hrest

theorem State.byteAt_regionStatus_entry {i : Nat} {c : Capture} (hi : (s.captureList r)[i]? = some c) {j : Nat} (hj : j < 4) :
    byteAt (replyOk (s.regionStatusItems r)) (21 + (4 * i + j)) = byteAt c.statusEntry j := by
  have hlist := s.byteAt_regionStatus_list r (1 + (4 * i + j))
  have hentry := byteAt_append_right (put1 (s.captureList r).length) ((s.captureList r).flatMap Capture.statusEntry) (4 * i + j)
  rw [← Nat.add_assoc] at hlist
  exact hlist.trans (hentry.trans (byteAt_flatMap (f := Capture.statusEntry) (n := 4) (fun _ => rfl) hi hj))

theorem State.regionStatus_fetched : match s.fetched r with
    | none => byteAt (replyOk (s.regionStatusItems r)) 17 = 0 ∧ nat2 (replyOk (s.regionStatusItems r)) 18 = 0
    | some c => byteAt (replyOk (s.regionStatusItems r)) 17 = 1 ∧ nat2 (replyOk (s.regionStatusItems r)) 18 = c.seq.toNat := by
  have hcode := s.byteAt_regionStatus_rest r 0
  have hlow := s.byteAt_regionStatus_rest r 1
  have hhigh := s.byteAt_regionStatus_rest r 2
  cases hfetched : s.fetched r with
  | none =>
    rw [hfetched] at hcode hlow hhigh
    exact ⟨hcode, nat2_of_half 0 hlow hhigh⟩
  | some c =>
    rw [hfetched] at hcode hlow hhigh
    exact ⟨hcode, nat2_of_half c.seq hlow hhigh⟩

/-- An entry of the list, byte by byte. -/
theorem State.regionStatus_entry {i : Nat} {c : Capture} (hi : (s.captureList r)[i]? = some c) :
    nat2 (replyOk (s.regionStatusItems r)) (21 + 4 * i) = c.seq.toNat ∧
    byteAt (replyOk (s.regionStatusItems r)) (23 + 4 * i) = routeCode c.route ∧
    byteAt (replyOk (s.regionStatusItems r)) (24 + 4 * i) = captureStateCode c.fill c.delivery := by
  have hroute : 23 + 4 * i = 21 + (4 * i + 2) := by omega
  have hstate : 24 + 4 * i = 21 + (4 * i + 3) := by omega
  rw [hroute, hstate]
  exact ⟨nat2_of_half c.seq (s.byteAt_regionStatus_entry r hi (j := 0) (by decide)) (s.byteAt_regionStatus_entry r hi (j := 1) (by decide)),
    s.byteAt_regionStatus_entry r hi (by decide), s.byteAt_regionStatus_entry r hi (by decide)⟩

end

theorem State.regionStatus_of_bad_id (s : State) {p : List Byte} (h : 16 ≤ nat1 p 0) : s.regionStatus p = (s, [0x03, 0x00]) := by
  rw [State.regionStatus, regionOf_eq_none h]
  rfl

theorem State.regionStatus_of_id (s : State) {p : List Byte} {r : RegionId} (h : nat1 p 0 = r.val) :
    s.regionStatus p = (s, replyOk (s.regionStatusItems r)) := by
  rw [State.regionStatus, regionOf_eq_some h]

/-! ### DRAIN_STATUS (R124, R162) -/

/-- The items behind the head. -/
def State.drainTail (s : State) (d : DrainId) : List Byte :=
  [if (s.drain d).rq = .high then 1 else 0, BitVec.ofNat 8 (s.drain d).grain, BitVec.ofNat 8 (s.drain d).timeout,
    BitVec.ofNat 8 (s.drain d).stray.toNat, BitVec.ofNat 8 ((s.drain d).stray.toNat / 256)]

theorem State.replyOk_drainStatusItems (s : State) (d : DrainId) : replyOk (s.drainStatusItems d) =
    [0x00, drainCode d, drainStateCode (s.drain d).state, BitVec.ofNat 8 (s.drain d).queue.length] ++ (s.headItems d ++ s.drainTail d) := by
  simp [replyOk, State.drainStatusItems, putFlag_eq, State.drainTail, put1, put2]

section
variable (s : State) (d : DrainId)

theorem State.byteAt_drainStatus_rest (j : Nat) :
    byteAt (replyOk (s.drainStatusItems d)) (4 + j) = byteAt (s.headItems d ++ s.drainTail d) j := by
  rw [s.replyOk_drainStatusItems]
  exact byteAt_append_right [0x00, drainCode d, drainStateCode (s.drain d).state, BitVec.ofNat 8 (s.drain d).queue.length] _ j

theorem State.byteAt_drainStatus_head {j : Nat} (hj : j < 14) : byteAt (replyOk (s.drainStatusItems d)) (4 + j) = byteAt (s.headItems d) j := by
  rw [s.byteAt_drainStatus_rest]
  exact byteAt_append_left _ (by rw [s.length_headItems]; exact hj)

theorem State.byteAt_drainStatus_tail (j : Nat) : byteAt (replyOk (s.drainStatusItems d)) (18 + j) = byteAt (s.drainTail d) j := by
  have hrest := byteAt_append_right (s.headItems d) (s.drainTail d) j
  rw [s.length_headItems, ← s.byteAt_drainStatus_rest d, ← Nat.add_assoc] at hrest
  exact hrest

theorem State.length_drainStatus : (replyOk (s.drainStatusItems d)).length = 23 := by
  rw [s.replyOk_drainStatusItems, List.length_append, List.length_append, s.length_headItems]
  rfl

/-- Without an ACTIVE head the head items are zeros. -/
theorem State.headItems_of_none (h : (s.drain d).hasHead = false) : s.headItems d = List.replicate 14 0 := by
  unfold State.headItems
  rw [h]
  rfl

variable {s d} {c : Capture}

theorem State.headItems_of_head (h : (s.drain d).hasHead = true) (hc : s.head d = some c) : s.headItems d =
    [0x01, BitVec.ofNat 8 c.region.val, BitVec.ofNat 8 c.seq.toNat, BitVec.ofNat 8 (c.seq.toNat / 256), fillCode c.fill] ++
      (putPosition (s.drain d).position ++ put4 (s.drain d).wordsTaken) := by
  unfold State.headItems
  rw [if_pos h, hc]
  simp [put1, put2]

variable (h : (s.drain d).hasHead = true) (hc : s.head d = some c)
include h hc

/-- The items of the head before its position. -/
theorem State.byteAt_drainStatus_capture {j : Nat} (hj : j < 5) : byteAt (replyOk (s.drainStatusItems d)) (4 + j) =
    byteAt [0x01, BitVec.ofNat 8 c.region.val, BitVec.ofNat 8 c.seq.toNat, BitVec.ofNat 8 (c.seq.toNat / 256), fillCode c.fill] j := by
  rw [s.byteAt_drainStatus_head d (by omega), State.headItems_of_head h hc]
  exact byteAt_append_left _ hj

/-- The position of the head stands at offset 9. -/
theorem State.byteAt_drainStatus_position {j : Nat} (hj : j < 5) :
    byteAt (replyOk (s.drainStatusItems d)) (9 + j) = byteAt (putPosition (s.drain d).position) j := by
  have hhead := s.byteAt_drainStatus_head d (j := 5 + j) (by omega)
  rw [State.headItems_of_head h hc, ← Nat.add_assoc] at hhead
  refine hhead.trans ((byteAt_append_right [_, _, _, _, _] _ j).trans (byteAt_append_left _ ?_))
  rw [length_putPosition]
  exact hj

/-- The number of data words taken stands at offset 14. -/
theorem State.byteAt_drainStatus_words {j : Nat} (hj : j < 4) :
    byteAt (replyOk (s.drainStatusItems d)) (14 + j) = byteAt (put4 (s.drain d).wordsTaken) j := by
  have hhead := s.byteAt_drainStatus_head d (j := 5 + (5 + j)) (by omega)
  have hposition := byteAt_append_right (putPosition (s.drain d).position) (put4 (s.drain d).wordsTaken) j
  rw [State.headItems_of_head h hc, ← Nat.add_assoc, ← Nat.add_assoc] at hhead
  rw [length_putPosition] at hposition
  exact hhead.trans ((byteAt_append_right [_, _, _, _, _] _ (5 + j)).trans hposition)

theorem State.drainStatus_position {code : Byte} {i : Nat} (hposition : putPosition (s.drain d).position = code :: put4 i) :
    byteAt (replyOk (s.drainStatusItems d)) 9 = code ∧ nat4 (replyOk (s.drainStatusItems d)) 10 = i % 4294967296 := by
  have hbyte {j : Nat} (hj : j < 5) := State.byteAt_drainStatus_position h hc hj
  rw [hposition] at hbyte
  exact ⟨hbyte (j := 0) (by decide), nat4_of_put4_mod (hbyte (j := 1) (by decide)) (hbyte (j := 2) (by decide))
    (hbyte (j := 3) (by decide)) (hbyte (j := 4) (by decide))⟩

theorem State.drainStatus_words : nat4 (replyOk (s.drainStatusItems d)) 14 = (s.drain d).wordsTaken % 4294967296 := by
  have hbyte {j : Nat} (hj : j < 4) := State.byteAt_drainStatus_words h hc hj
  exact nat4_of_put4_mod (hbyte (j := 0) (by decide)) (hbyte (j := 1) (by decide)) (hbyte (j := 2) (by decide)) (hbyte (j := 3) (by decide))

end

theorem State.drainStatus_of_bad (s : State) {p : List Byte} (h0 : byteAt p 0 ≠ 0) (h1 : byteAt p 0 ≠ 1) : s.drainStatus p = (s, [0x03, 0x00]) := by
  have hnone : drainOf (byteAt p 0) = none := (if_neg h0).trans (if_neg h1)
  rw [State.drainStatus, hnone]
  rfl

theorem State.drainStatus_of_drain (s : State) {p : List Byte} {d : DrainId} (h : byteAt p 0 = drainCode d) :
    s.drainStatus p = (s, replyOk (s.drainStatusItems d)) := by
  have hdrain : drainOf (byteAt p 0) = some d := by
    rw [h]
    cases d <;> rfl
  rw [State.drainStatus, hdrain]

/-- Settles O34: the items stand at fixed offsets of the replies, and the list of captures at offset 21. -/
theorem regionAndDrainStatusReplies : Obligations.RegionAndDrainStatusReplies := by
  refine ⟨fun s q hq => ⟨fun hbad => hq.exec_eq rfl rfl (s.regionStatus_of_bad_id hbad), fun r hr => ?region⟩,
    fun s q hq => ⟨fun h0 h1 => hq.exec_eq rfl rfl (s.drainStatus_of_bad h0 h1), fun d hd => ?drain⟩⟩
  case region =>
    refine ⟨_, hq.exec_eq rfl rfl (s.regionStatus_of_id hr), s.length_regionStatus r, s.byteAt_regionStatus r (by decide), ?id, ?run,
      ?phase, s.half_regionStatus r (by decide) rfl rfl, s.half_regionStatus r (by decide) rfl rfl,
      s.half_regionStatus r (by decide) rfl rfl, s.half_regionStatus r (by decide) rfl rfl, s.put2_regionStatus r (by decide) rfl rfl,
      s.put2_regionStatus r (by decide) rfl rfl, s.byteAt_regionStatus r (by decide), ?fetched, ?length, fun i c hi => ?entry⟩
    case id =>
      have hlt := r.isLt
      exact nat1_of_put1 (s.byteAt_regionStatus r (by decide)) (by omega)
    case run =>
      rw [s.byteAt_regionStatus r (by decide)]
      change runCode (s.entry r).run = _
      cases (s.entry r).run <;> rfl
    case phase => exact nat1_of_put1_mod (s.byteAt_regionStatus r (by decide))
    case fetched =>
      have hfetched := s.regionStatus_fetched r
      generalize replyOk (s.regionStatusItems r) = p at hfetched
      cases hf : s.fetched r with
      | none =>
        rw [hf] at hfetched
        exact hfetched
      | some c =>
        rw [hf] at hfetched
        exact hfetched
    case length => exact nat1_of_put1_mod (s.byteAt_regionStatus_list r 0)
    case entry =>
      obtain ⟨hseq, hroute, hstate⟩ := s.regionStatus_entry r hi
      refine ⟨hseq, hroute.trans ?_, fun hf hd => ?_, fun hf hd => ?_, fun hf hd => ?_, fun hf hd => ?_, fun hf hd => ?_⟩
      · rcases c.route with _ | d
        · rfl
        · cases d <;> rfl
      all_goals
        rw [hf, hd] at hstate
        exact hstate
  case drain =>
    have hcode : byteAt q.payload 0 = drainCode d := by
      rw [hd]
      cases d <;> rfl
    have hfront := s.replyOk_drainStatusItems d
    refine ⟨_, hq.exec_eq rfl rfl (s.drainStatus_of_drain hcode), s.length_drainStatus d, rfl, ?_, ?_, ?_, fun c i hst hc => ?_,
      fun hst hst' i hlow hhigh => ?_, ?_, nat1_of_put1_mod (s.byteAt_drainStatus_tail d 1), nat1_of_put1_mod (s.byteAt_drainStatus_tail d 2),
      nat2_of_half _ (s.byteAt_drainStatus_tail d 3) (s.byteAt_drainStatus_tail d 4)⟩
    · rw [hcode, hfront]
      rfl
    · rw [hfront]
      change drainStateCode (s.drain d).state = _
      cases (s.drain d).state <;> rfl
    · rw [hfront]
      exact nat1_of_put1_mod rfl
    · have hhas := Drain.hasHead_iff.mpr hst
      have hbyte {j : Nat} (hj : j < 5) := State.byteAt_drainStatus_capture hhas hc hj
      have hregion := c.region.isLt
      refine ⟨hbyte (j := 0) (by decide), nat1_of_put1 (hbyte (j := 1) (by decide)) (by omega),
        nat2_of_half _ (hbyte (j := 2) (by decide)) (hbyte (j := 3) (by decide)), (hbyte (j := 4) (by decide)).trans ?_,
        fun hp => ?_, fun hp => ?_, fun hp => ?_, State.drainStatus_words hhas hc⟩
      · change fillCode c.fill = _
        cases c.fill <;> rfl
      all_goals exact State.drainStatus_position hhas hc (by rw [hp]; rfl)
    · have hnone : (s.drain d).hasHead = false := Bool.eq_false_iff.mpr fun h => (Drain.hasHead_iff.mp h).elim hst hst'
      obtain ⟨j, rfl⟩ := Nat.exists_eq_add_of_le hlow
      rw [s.byteAt_drainStatus_head d (by omega), s.headItems_of_none d hnone, byteAt]
      exact List.getD_replicate _ (by omega)
    · rw [s.byteAt_drainStatus_tail d 0]
      change (if (s.drain d).rq = .high then (1 : Byte) else 0) = _
      cases (s.drain d).rq <;> rfl

end Sys2Proof.Machine
end
